-- ==== Sys2Proof/Word.lean ====
section
/-! DEFINITION. The one word type of the block: a byte (20_memory.md R54, 00_scope.md R9). -/

namespace Sys2Proof

/-- A byte. Every register, every frame field and every wire unit is one byte (R9, R52, R54). -/
abbrev Byte := BitVec 8

end Sys2Proof
end

