-- ==== Sys2Proof/Config.lean ====
section
/-! DEFINITION. The constants of 00_scope.md R7, the parameters of R8, and the free values.
R7's values are the document's literals, which are unaudited (D28; notes/assumptions/17.md). -/

namespace Sys2Proof.Config

/-- START1, first start marker, frame byte 0 (R7). -/
abbrev start1 : Byte := 0xEF
/-- START2, second start marker, frame byte 1 (R7). -/
abbrev start2 : Byte := 0xFA
/-- SEED, initial value of the checksum fold (R7). -/
abbrev seed : Byte := 0xFF
/-- MAX_PAYLOAD, largest payload length (R7). -/
abbrev maxPayload : Nat := 20
/-- HEADER_LEN, bytes before the payload (R7). -/
abbrev headerLen : Nat := 5
/-- MAX_FRAME, `6 + MAX_PAYLOAD` (R7). -/
abbrev maxFrame : Nat := 26
/-- BROADCAST_ADDR, also the conventional master address (R7, R44, D23). -/
abbrev broadcastAddr : Byte := 0x01
/-- ADDR_MIN, lowest legal destination and own address (R7). -/
abbrev addrMin : Byte := 0x01
/-- ADDR_MAX, highest legal destination and own address (R7). -/
abbrev addrMax : Byte := 0x7F
/-- TIMEOUT, in clock units (R7). -/
abbrev timeout : Nat := 100

/-- The parameters of R8 that decide what a step does. Fixed for a run (R43): State holds them because a step has no other
argument, no step writes them, and every statement about a state is about every value of them (notes/assumptions/10.md,
11.md, 12.md). -/
structure Params where
  /-- TIME_WIDTH, the width W in bits of clock values and of TS (D5, 93_implementation_defined.md I8). -/
  timeWidth : Nat
  /-- RESTART_TIMER_PER_BYTE, whether TS is re-recorded at every received byte (D6, I9, 90_conflicts.md C7). -/
  restartTimerPerByte : Bool
  /-- The capacity of RXQ, from RXQ_DEPTH (D25, I10): how many bytes the transport's receive queue holds; none where it has no
  bound. What a full queue does is left to the schedule of inputs. -/
  rxqDepth : Option Nat
deriving DecidableEq, Repr

/-- The defaults of R8. DESIGN CHOICE for RXQ_DEPTH, which R8 leaves open: no bound (notes/assumptions/10.md). -/
def defaultParams : Params where
  timeWidth := 32
  restartTimerPerByte := false
  rxqDepth := none

/-- Free value: which of the 252 bytes BUSY_RESULT may be (R8, R112, D10; notes/assumptions/7.md). -/
opaque busyDraw : Fin 252

/-- BUSY_RESULT (R8): a byte "never 0, -1, -2 or -3", so one of 0x01..0xFC, and nothing more is known of it. -/
def busyResult : Byte := BitVec.ofNat 8 (busyDraw.val + 1)

/-- Free value: BAUD, the rate INIT passes to the transport (R8, R174, D14; notes/assumptions/8.md). -/
opaque baud : Nat

/-- Free value: DUMP_TEXT (R8, R177, D20), the lines a DUMP emits for a buffer. The first argument is the
draw counter of State, so that two DUMPs need not agree (notes/assumptions/9.md). -/
opaque dumpText : Nat → Vector Byte maxFrame → List String

end Sys2Proof.Config
end

