-- ==== Sys2Proof/Syntax.lean ====
section
/-! DEFINITION. The commands (LINK-CMD v1), the host's accesses (LINK-REG v1), the events of the environment,
and the notation of host programs. -/

namespace Sys2Proof

/-- The five commands, one constructor per row of spec/opcode_table.json (30_encoding.md R81, R83). A command has
no field: its operands stand in ARG0, ARG1 and TXDATA when it executes (R81, R86; notes/assumptions/15.md). -/
inductive Instr where
  /-- INIT, opcode 0x01 (R170). -/
  | init
  /-- SEND, opcode 0x02 (R110). -/
  | send
  /-- POLL, opcode 0x03 (R130). -/
  | poll
  /-- ISBUSY, opcode 0x04 (R175). -/
  | isBusy
  /-- DUMP, opcode 0x05 (R176). -/
  | dump
deriving DecidableEq, Repr

/-- The buffer a DUMP shows (R176): ARG1 = 0 the send buffer, ARG1 = 1 the receive buffer. -/
inductive Direction where
  | sendBuffer
  | receiveBuffer
deriving DecidableEq, Repr

/-- The host-visible registers (20_memory.md R55). -/
inductive Reg where
  | cmd
  | arg0
  | arg1
  | result
  | status
  | ownaddr
  | txdata (i : Fin Config.maxPayload)
  | outdata (i : Fin Config.maxPayload)
deriving DecidableEq, Repr

/-- One access of the host to the register space (R56): an 8-bit offset and a width in bytes. Of a write the model
keeps the low byte, since an access of any width but 1 is refused. -/
inductive Access where
  | read (off : Byte) (width : Nat)
  | write (off : Byte) (width : Nat) (v : Byte)
deriving DecidableEq, Repr

/-- What happens next, from outside the block (R20, R42, R63; notes/assumptions/1.md). -/
inductive Input where
  /-- The host makes one access. -/
  | access (a : Access)
  /-- The line delivers one byte, which joins RXQ where RXQ_DEPTH leaves room (R63, D25). -/
  | arrive (b : Byte)
  /-- The transport loses the queued bytes at these positions, one, several or all of them, where RXQ_DEPTH allows it: when
  the queue is full (R63, D25; notes/assumptions/10.md). -/
  | lose (lost : List Nat)
  /-- The environment advances CLOCK to `t`, of which the clock keeps the low TIME_WIDTH bits (R63, R102, R215;
  notes/assumptions/19.md). -/
  | clock (t : Nat)
deriving DecidableEq, Repr

/-- A line of a host program: a basic line (R100), a pseudo-instruction (R101) or an environment directive (R102). -/
inductive Line where
  /-- `WR <reg>, <byte>` -/
  | wr (r : Reg) (v : Byte)
  /-- `RD <reg>` -/
  | rd (r : Reg)
  /-- `INIT a, d` -/
  | init (a d : Byte)
  /-- `LOADTX b_0, ..., b_{k-1}` -/
  | loadtx (bs : List Byte)
  /-- `SEND dest, len` -/
  | send (dest len : Byte)
  /-- `POLL` -/
  | poll
  /-- `ISBUSY` -/
  | isBusy
  /-- `DUMP dir` -/
  | dump (dir : Byte)
  /-- `@rx b_0 b_1 ...` -/
  | rx (bs : List Byte)
  /-- `@clock t` -/
  | clock (t : Nat)
deriving DecidableEq, Repr

/-- A condition of `until` over the values the program has read (R103); `back` counts from the latest read, 0. -/
inductive Cond where
  | readIs (back : Nat) (v : Byte)
  | readIsNot (back : Nat) (v : Byte)
deriving DecidableEq, Repr

/-- A block of a host program: a line, or one of the two host-side forms of R103. DESIGN CHOICE: the lines of a form are
lines of R100 to R102 and hold no further form; R103 does not say whether the forms nest (notes/assumptions/26.md). -/
inductive Block where
  | line (l : Line)
  /-- `repeat n { lines }` -/
  | times (n : Nat) (body : List Line)
  /-- `until <cond> max n { lines }` (notes/assumptions/25.md says when the condition is tested) -/
  | untilHolds (c : Cond) (max : Nat) (body : List Line)
deriving DecidableEq, Repr

/-- A host program (R100, D29; notes/assumptions/23.md). -/
abbrev Program := List Block

end Sys2Proof
end

