-- ==== Sys2Proof/Decode.lean ====
section
/-! DEFINITION. The opcode map, decoder and encoder of LINK-CMD v1 (30_encoding.md R80 to R86), and the register map
of LINK-REG v1 (20_memory.md R55) in both directions. -/

namespace Sys2Proof

/-- Why bytes are no command. -/
inductive DecodeError where
  /-- A CMD value of 0x00 or 0x06..0xFF (R84). -/
  | reservedOpcode
  /-- There is no byte at all. -/
  | noByte
deriving DecidableEq, Repr

/-- The command an opcode byte stands for (R80, R83). Every value outside 0x01..0x05 is reserved (R84). -/
def decode (op : Byte) : Except DecodeError Instr :=
  match op.toNat with
  | 0x01 => .ok .init
  | 0x02 => .ok .send
  | 0x03 => .ok .poll
  | 0x04 => .ok .isBusy
  | 0x05 => .ok .dump
  | _ => .error .reservedOpcode

/-- A command is one byte long, in every case (R86): decode the first byte and hand on the rest. -/
def decodeBytes : List Byte → Except DecodeError (Instr × List Byte)
  | [] => .error .noByte
  | op :: rest =>
    match decode op with
    | .ok i => .ok (i, rest)
    | .error e => .error e

/-- The opcode byte of a command (R83). -/
def Instr.opcode : Instr → Byte
  | .init => 0x01
  | .send => 0x02
  | .poll => 0x03
  | .isBusy => 0x04
  | .dump => 0x05

/-- The bytes of a command (R81, R86). -/
def encode (i : Instr) : List Byte := [i.opcode]

/-- The bytes of a word of `nbits` bits, numbered as the opcode table numbers them: bit 0 is the least significant bit
of the first byte. -/
def tableBytes (nbits w : Nat) : List Byte :=
  (List.range (nbits / 8)).map fun k => BitVec.ofNat 8 (w / 256 ^ k)

/-- The command the decoder reads from a table word: all its bytes must be that one command. -/
def decodeTableWord (nbits w : Nat) : Option Instr :=
  match decodeBytes (tableBytes nbits w) with
  | .ok (i, []) => some i
  | _ => none

/-- The byte offset of a register (R55). -/
def Reg.offset : Reg → Byte
  | .cmd => 0x00
  | .arg0 => 0x01
  | .arg1 => 0x02
  | .result => 0x03
  | .status => 0x04
  | .ownaddr => 0x05
  | .txdata i => BitVec.ofNat 8 (0x10 + i.val)
  | .outdata i => BitVec.ofNat 8 (0x30 + i.val)

/-- The register at an offset, or none where the offset is reserved (R55, R58). -/
def Reg.atOffset (off : Byte) : Option Reg :=
  match off.toNat with
  | 0x00 => some .cmd
  | 0x01 => some .arg0
  | 0x02 => some .arg1
  | 0x03 => some .result
  | 0x04 => some .status
  | 0x05 => some .ownaddr
  | n =>
    if h : 0x10 ≤ n ∧ n ≤ 0x23 then some (.txdata ⟨n - 0x10, by change _ < 20; omega⟩)
    else if h : 0x30 ≤ n ∧ n ≤ 0x43 then some (.outdata ⟨n - 0x30, by change _ < 20; omega⟩)
    else none

/-- Whether the host may write the register (R55, R58). -/
def Reg.writable : Reg → Bool
  | .cmd => true
  | .arg0 => true
  | .arg1 => true
  | .result => false
  | .status => false
  | .ownaddr => false
  | .txdata _ => true
  | .outdata _ => false

end Sys2Proof
end

