-- ==== Sys2Proof/WellFormed.lean ====
section
/-! DEFINITION. Which terms are well-formed: commands, host accesses, inputs, and lines of a host program. -/

namespace Sys2Proof

/-- Every command is well-formed: it has no field, so there is nothing to check (30_encoding.md R81, R86). The operand
values a command does not allow stand in registers and are refused by that command's own rule (R84). -/
def Instr.wf : Instr → Bool
  | .init => true
  | .send => true
  | .poll => true
  | .isBusy => true
  | .dump => true

/-- An access the spec gives a meaning (20_memory.md R56, R58; 30_encoding.md R84): one byte wide, at a defined offset,
a write only to a register the host may write, and to CMD only an opcode of the map. -/
def Access.wf : Access → Bool
  | .read off width => width == 1 && (Reg.atOffset off).isSome
  | .write off width v =>
    width == 1 &&
      match Reg.atOffset off with
      | none => false
      | some .cmd => (decode v).toOption.isSome
      | some r => r.writable

/-- Every event of the environment is allowed (R63); an access must be well-formed. -/
def Input.wf : Input → Bool
  | .access a => a.wf
  | .arrive _ => true
  | .lose _ => true
  | .clock _ => true

/-- A line of a host program (30_encoding.md R100 to R102): writes go to registers the host may write, CMD takes an opcode
of the map, and LOADTX loads at most the twenty bytes of TXDATA. -/
def Line.wf : Line → Bool
  | .wr .cmd v => (decode v).toOption.isSome
  | .wr r _ => r.writable
  | .rd _ => true
  | .init _ _ => true
  | .loadtx bs => decide (bs.length ≤ Config.maxPayload)
  | .send _ _ => true
  | .poll => true
  | .isBusy => true
  | .dump _ => true
  | .rx _ => true
  | .clock _ => true

end Sys2Proof
end

