-- ==== Sys2Proof/Machine/State.lean ====
section
/-! DEFINITION. The state of one Link instance (10_state.md R22, R33 to R39), the environment state it reads and writes
(R42), the model's own fields, the reasons a step can stop, and the state after reset (70_reset_and_hazards.md R230). -/

namespace Sys2Proof.Machine

/-- The fifteen log tags of 60_exceptions.md R216, in the order of that rule. -/
inductive Tag where
  | startSending
  | lengthErr
  | addrErr
  | sameAddrErr
  | timeOut
  | noStart1
  | noStart2
  | toLong
  | crcFail
  | validPackage
  | brCastEnd
  | badCycle
  | dataBypass
  | brCastForward
  | dataRecv
deriving DecidableEq, Repr

/-- One line of LOGOUT: a tag, or a line of DUMP_TEXT (R216). Formatting around a tag is the sink's and is not recorded
(93_implementation_defined.md I6; notes/assumptions/20.md). -/
inductive LogLine where
  | tag (t : Tag)
  | dump (text : String)
deriving DecidableEq, Repr

/-- The four reasons the receive machine aborts (60_exceptions.md R196). -/
inductive AbortReason where
  | noStart2
  | tooLong
  | crcFail
  | timeout
deriving DecidableEq, Repr

/-- Why the machine stops with a fault. Both are reached only in states that no run reaches. -/
inductive Fault where
  /-- `RxRead()` with no byte in RXQ (93_implementation_defined.md I2: "a model that reached it should `fault`"). Raised by
  `State.rxRead`; POLL never calls it then (R133). Safe: the machine stops. -/
  | rxReadEmpty
  /-- POLL with BUSY = 1 would increment CURSOR past 25, the last index of RXBUF (20_memory.md R71, 10_state.md R27). Raised by
  POLL; R41 rules the state out. Safe: the machine stops (notes/assumptions/13.md). -/
  | cursorPastBuffer
deriving DecidableEq, Repr

/-- Why an access or a command has no meaning (00_scope.md R12): the closed list of 60_exceptions.md R205, and the
host's own word for an instruction without a meaning. All are safe: the run has no further step. -/
inductive Refusal where
  /-- An arm of `exec` without a meaning. Safe. No arm uses it. -/
  | notModelled (mnemonic : String)
  /-- A write to CMD of 0x00 or 0x06..0xFF (R84). Raised by a host write. Safe. -/
  | reservedOpcode
  /-- SEND, POLL, ISBUSY or DUMP before the first successful INIT (R173). Raised by those commands. Safe. -/
  | notInitialised
  /-- INIT after a successful INIT (R172). Raised by INIT. Safe. -/
  | reInit
  /-- INIT with ARG1[7:1] != 0 (R174), DUMP with ARG1 > 1 (R176). Raised by INIT and DUMP. Safe. -/
  | badOperand
  /-- A read or write of a reserved offset (R58). Raised by a host access. Safe. -/
  | reservedOffset
  /-- A write to RESULT, STATUS, OWNADDR or OUTDATA (R58). Raised by a host write. Safe. -/
  | readOnlyWrite
  /-- An access of a width other than one byte (R56). Raised by a host access. Safe. -/
  | wideAccess
deriving DecidableEq, Repr

/-- The state. -/
structure State where
  -- Internal elements of the Link (10_state.md R22)
  ownAddr : Byte
  inited : Bool
  debug : Bool
  busy : Bool
  cursor : Fin Config.maxFrame
  ts : Nat
  isBcast : Bool
  isBypass : Bool
  txbuf : Vector Byte Config.maxFrame
  rxbuf : Vector Byte Config.maxFrame
  -- Host-visible registers (R33, R34, R37, R38); STATUS, OWNADDR and CMD hold no state of their own (R35, R36, R39)
  arg0 : Byte
  arg1 : Byte
  result : Byte
  txdata : Vector Byte Config.maxPayload
  outdata : Vector Byte Config.maxPayload
  -- The environment (R42): RXQ oldest byte first, TXOUT and LOGOUT in order of output, the rate TxInit was called with
  rxq : List Byte
  txout : List Byte
  clock : Nat
  logout : List LogLine
  baud : Option Nat
  -- The parameters of R8 that are arguments of the model, fixed for a run (R43; notes/assumptions/10.md, 11.md, 12.md)
  params : Config.Params
  -- The model's own: what happens next, what the host has read, and the counter of DUMP_TEXT's draws
  inputs : List Input
  reads : List Byte
  draws : Nat
deriving DecidableEq, Repr

/-- What a command, an access or a step answers. -/
abbrev Result := Host.Outcome State Fault Refusal

/-- The machine right after reset (R230), for any parameters of R8 and any contents of what R230 and R232 leave open: the four
buffers, the bytes already in RXQ, as many as it holds, and CLOCK, a TIME_WIDTH-bit value. -/
def State.resetWith (params : Config.Params) (txbuf rxbuf : Vector Byte Config.maxFrame) (txdata outdata : Vector Byte Config.maxPayload)
    (rxq : List Byte) (clock : Nat) : State where
  ownAddr := 0x00
  inited := false
  debug := false
  busy := false
  cursor := 0
  ts := 0
  isBcast := false
  isBypass := false
  txbuf := txbuf
  rxbuf := rxbuf
  arg0 := 0x00
  arg1 := 0x00
  result := 0x00
  txdata := txdata
  outdata := outdata
  rxq := match params.rxqDepth with
    | none => rxq
    | some depth => rxq.take depth
  txout := []
  clock := clock % 2 ^ params.timeWidth
  logout := []
  baud := none
  params := params
  inputs := []
  reads := []
  draws := 0

/-- The machine right after reset, with the defaults of R8. DESIGN CHOICE for what the spec leaves open: buffers of zeros, RXQ empty and
without a bound, CLOCK 0 (notes/assumptions/5.md, 6.md, 10.md). -/
def State.reset : State :=
  State.resetWith Config.defaultParams (Vector.replicate Config.maxFrame 0) (Vector.replicate Config.maxFrame 0)
    (Vector.replicate Config.maxPayload 0) (Vector.replicate Config.maxPayload 0) [] 0

end Sys2Proof.Machine
end

