-- ==== Sys2Proof/Machine/Ops.lean ====
section
/-! DEFINITION. The shared operations: buffers, the checksum and the wire frame, the three collaborators, the abort of the
receive machine, and the INIT gate. -/

namespace Sys2Proof.Machine

/-! ## Buffers -/

/-- `BUF[start + k] <- bs[k]` for every `k`, in order. Every index a rule computes is in bounds (20_memory.md R71). -/
def storeFrom {n : Nat} (buf : Vector Byte n) (start : Nat) : List Byte → Vector Byte n
  | [] => buf
  | b :: bs => storeFrom (buf.setIfInBounds start b) (start + 1) bs

/-- `BUF[start .. start + len - 1]`, in index order. -/
def bytesFrom {n : Nat} (buf : Vector Byte n) (start len : Nat) : List Byte :=
  (buf.toList.drop start).take len

/-! ## The wire frame -/

/-- The checksum: the XOR fold from SEED (30_encoding.md R94). -/
def chk (bs : List Byte) : Byte := bs.foldl (· ^^^ ·) Config.seed

/-- Frame bytes 0..4+L: the two start markers, DEST, SRC, L and the payload (R90). -/
def frameBody (dest src len : Byte) (payload : List Byte) : List Byte :=
  Config.start1 :: Config.start2 :: dest :: src :: len :: payload

/-- A whole frame: its body, then CHK over all of the body (R90, R94). -/
def frame (dest src len : Byte) (payload : List Byte) : List Byte :=
  frameBody dest src len payload ++ [chk (frameBody dest src len payload)]

/-! ## The transport (60_exceptions.md R214) -/

/-- `TxWrite(b)`: append `b` to the transport's output stream (00_scope.md R11). It never fails. -/
def State.txWrite (s : State) (b : Byte) : State := { s with txout := s.txout ++ [b] }

/-- `TxWrite` of each byte of `bs`, in order. -/
def State.txWriteAll (s : State) (bs : List Byte) : State := { s with txout := s.txout ++ bs }

/-- `TxInit(BAUD)`: the transport is initialised with the platform's rate (42_control.md R174). -/
def State.txInit (s : State) : State := { s with baud := some Config.baud }

/-- `RxAvail()`: how many bytes RXQ holds (R11). -/
def State.rxAvail (s : State) : Nat := s.rxq.length

/-- `RxRead()`: remove and return the oldest byte of RXQ (R11). With no byte it faults
(93_implementation_defined.md I2); no rule calls it then (41_receive.md R133). -/
def State.rxRead (s : State) : Except Fault (Byte × State) :=
  match s.rxq with
  | [] => .error .rxReadEmpty
  | b :: rest => .ok (b, { s with rxq := rest })

/-- RXQ holds as many bytes as RXQ_DEPTH lets it (R8, R214, D25). -/
def State.rxFull (s : State) : Bool :=
  match s.params.rxqDepth with
  | none => false
  | some depth => decide (depth ≤ s.rxAvail)

/-- The line delivers one byte: it joins the end of RXQ (20_memory.md R63), unless RXQ is full; then the byte is lost.
DESIGN CHOICE for a full queue, where R8 and D25 leave open what happens: with `State.lose` before it, queued bytes are
dropped instead (notes/assumptions/10.md). -/
def State.arrive (s : State) (b : Byte) : State := { s with rxq := if s.rxFull then s.rxq else s.rxq ++ [b] }

/-- A queue without the bytes at some positions, the others in their order. -/
def dropAt (lost : List Nat) (q : List Byte) : List Byte :=
  (q.zipIdx.filter fun p => !lost.contains p.2).map Prod.fst

/-- The transport loses the queued bytes at the positions `lost`, all in one event, if RXQ is full; "The environment never
removes bytes from RXQ except as RXQ_DEPTH allows" (R63, D25), so at any other time nothing is lost. DESIGN CHOICE, where
R8 and D25 leave open what a full queue does: it may drop any of its bytes, several or all of them included, and keeps
the others unchanged and in order (notes/assumptions/10.md). -/
def State.lose (s : State) (lost : List Nat) : State := { s with rxq := if s.rxFull then dropAt lost s.rxq else s.rxq }

/-! ## The clock (R215) -/

/-- `Now()` (R11). -/
def State.now (s : State) : Nat := s.clock

/-- The environment advances CLOCK to `t` (R63, R102); `Now()` is a TIME_WIDTH-bit value (R11). -/
def State.setClock (s : State) (t : Nat) : State := { s with clock := t % 2 ^ s.params.timeWidth }

/-- The time from `ts` to `now`: the wrap-around difference read as two's complement, `signed_W((now - ts) mod 2^W)`
(41_receive.md R131). -/
def elapsed (w now ts : Nat) : Int := Int.bmod (now - ts) (2 ^ w)

/-! ## The log (R216) -/

/-- The text of a tag, letter for letter (R216). -/
def Tag.text : Tag → String
  | .startSending => "Start Sending"
  | .lengthErr => "Length-ERR"
  | .addrErr => "Addr-ERR"
  | .sameAddrErr => "Same Addr-ERR"
  | .timeOut => "TimeOut"
  | .noStart1 => "No Start1"
  | .noStart2 => "No Start2"
  | .toLong => "To long"
  | .crcFail => "CRC Fail"
  | .validPackage => "Valid Package recv."
  | .brCastEnd => "BrCast End"
  | .badCycle => "Bad Cycle"
  | .dataBypass => "Data Bypass"
  | .brCastForward => "BrCast Forward"
  | .dataRecv => "Data Recv"

/-- `Log(tag)`: one line with the tag when DEBUG = 1, nothing when DEBUG = 0 (R11, R216). -/
def State.log (s : State) (t : Tag) : State :=
  { s with logout := if s.debug then s.logout ++ [.tag t] else s.logout }

/-- The lines of DUMP_TEXT for a buffer, when DEBUG = 1 (42_control.md R176, R177). The draw counter moves on, so that the
next DUMP draws its lines anew (notes/assumptions/9.md). -/
def State.logDump (s : State) (buf : Vector Byte Config.maxFrame) : State :=
  if s.debug then
    { s with logout := s.logout ++ (Config.dumpText s.draws buf).map .dump, draws := s.draws + 1 }
  else s

/-! ## Results, and leaving the receive machine -/

/-- `RESULT <- v`. -/
def State.setResult (s : State) (v : Byte) : State := { s with result := v }

/-- `Release()`: BUSY <- 0, CURSOR <- 0, and nothing else (41_receive.md R142). -/
def State.release (s : State) : State := { s with busy := false, cursor := 0 }

/-- The code of an abort reason (60_exceptions.md R196); the host never sees it. -/
def AbortReason.code : AbortReason → Nat
  | .noStart2 => 1
  | .tooLong => 2
  | .crcFail => 3
  | .timeout => 4

/-- The log tag of an abort reason (R196). -/
def AbortReason.tag : AbortReason → Tag
  | .noStart2 => .noStart2
  | .tooLong => .toLong
  | .crcFail => .crcFail
  | .timeout => .timeOut

/-- `abort(reason)`: BUSY <- 0, CURSOR <- 0, then the reason's tag is logged; exactly that (R197). What an instruction set
calls taking an exception is this one operation; it saves nothing and there is no return from it (R202, R203). -/
def State.abort (s : State) (r : AbortReason) : State := s.release.log r.tag

/-! ## The gate -/

/-- Every command but INIT is refused before the first successful INIT (30_encoding.md R80, 42_control.md R173). -/
def whenInitialised (s : State) (k : Result) : Result :=
  if s.inited then k else .refused .notInitialised

end Sys2Proof.Machine
end

