-- ==== Sys2Proof/Machine/Operands.lean ====
section
/-! DEFINITION. The operands of the commands: unsigned bytes of ARG0, ARG1 and TXDATA, never scaled, shifted or
sign-extended (30_encoding.md R81, R82), and the checks on them. -/

namespace Sys2Proof.Machine

/-- A legal node address, `[ADDR_MIN, ADDR_MAX]` = `[0x01, 0x7F]` (40_send.md R111, 42_control.md R171). -/
def addrLegal (a : Byte) : Bool := decide (Config.addrMin ≤ a) && decide (a ≤ Config.addrMax)

/-- INIT's own address, ARG0 (R170). -/
def State.initAddr (s : State) : Byte := s.arg0

/-- INIT's debug flag, bit 0 of ARG1 (R170, D15). -/
def State.initDebug (s : State) : Bool := s.arg1.getLsbD 0

/-- INIT's ARG1 has bits 7:1 clear (R174, D15). -/
def State.initFlagsOk (s : State) : Bool := s.arg1.extractLsb 7 1 == 0

/-- SEND's destination, ARG0 (R110). -/
def State.sendDest (s : State) : Byte := s.arg0

/-- SEND's length, ARG1 unsigned (R110, R82). -/
def State.sendLen (s : State) : Nat := s.arg1.toNat

/-- SEND's payload, TXDATA[0..len-1] (R110). -/
def State.sendPayload (s : State) : List Byte := bytesFrom s.txdata 0 s.sendLen

/-- DUMP's direction, ARG1: 0 the send buffer, 1 the receive buffer, no other (R176, D20). -/
def State.dumpDirection (s : State) : Option Direction :=
  if s.arg1 = 0 then some .sendBuffer
  else if s.arg1 = 1 then some .receiveBuffer
  else none

/-- The buffer a direction names (R176). -/
def State.bufferOf (s : State) : Direction → Vector Byte Config.maxFrame
  | .sendBuffer => s.txbuf
  | .receiveBuffer => s.rxbuf

end Sys2Proof.Machine
end

