-- ==== Sys2Proof/Machine/Flags.lean ====
section
/-! DEFINITION. The flags: STATUS, the master role, the classification of a frame, and the timeout condition. -/

namespace Sys2Proof.Machine

/-- A flag as a byte, `zext_8` (00_scope.md R9). -/
def flagByte (b : Bool) : Byte := if b then 1 else 0

/-- STATUS: bit 0 BUSY, bit 1 INIT, bit 2 DEBUG, bits 7:3 zero (10_state.md R35). -/
def State.statusByte (s : State) : Byte :=
  flagByte s.busy ||| (flagByte s.inited <<< 1) ||| (flagByte s.debug <<< 2)

/-- The node is the master exactly when its own address is BROADCAST_ADDR (10_state.md R44). -/
def State.isMaster (s : State) : Bool := s.ownAddr == Config.broadcastAddr

/-- The frame in progress is to time out: BUSY = 1 and the elapsed time exceeds TIMEOUT, strictly (41_receive.md R131). -/
def State.timedOut (s : State) : Bool :=
  s.busy && decide ((Config.timeout : Int) < elapsed s.params.timeWidth s.now s.ts)

/-- The classification at cursor 3: broadcast when DEST and SRC are both BROADCAST_ADDR, else bypass when DEST is not this
node's address, else neither flag changes (R137). -/
def State.classify (s : State) : State :=
  if s.rxbuf[2] = Config.broadcastAddr ∧ s.rxbuf[3] = Config.broadcastAddr then { s with isBcast := true }
  else if s.rxbuf[2] ≠ s.ownAddr then { s with isBypass := true }
  else s

end Sys2Proof.Machine
end

