-- ==== Sys2Proof/Machine/Control.lean ====
section
/-! DEFINITION. INIT, ISBUSY and DUMP (42_control.md). -/

namespace Sys2Proof.Machine

/-- INIT (R170). A second INIT after a success is refused (R172), then bits 7:1 of ARG1 (R174); an illegal own address
gives RESULT 0x00 and no other change (R171). INIT logs nothing and leaves the receive machine alone (R174). -/
def execInit (s : State) : Result :=
  if s.inited then .refused .reInit
  else if s.initFlagsOk = false then .refused .badOperand
  else if addrLegal s.initAddr = false then .next (s.setResult 0x00)
  else
    .next (({ s with ownAddr := s.initAddr, debug := s.initDebug, inited := true }).txInit.setResult 0x01)

/-- ISBUSY (R175): RESULT <- zext_8(BUSY). It does not run the timeout guard. -/
def execIsBusy (s : State) : Result :=
  whenInitialised s <| .next (s.setResult (flagByte s.busy))

/-- DUMP (R176): with DEBUG = 1 the lines of DUMP_TEXT for the chosen buffer; a direction above 1 is refused. RESULT is
not written and nothing else of the block changes. -/
def execDump (s : State) : Result :=
  whenInitialised s <|
    match s.dumpDirection with
    | none => .refused .badOperand
    | some dir => .next (s.logDump (s.bufferOf dir))

end Sys2Proof.Machine
end

