-- ==== Sys2Proof/Machine/Receive.lean ====
section
/-! DEFINITION. POLL: the timeout guard, the byte step, the cursor-indexed checks and the routing (41_receive.md). -/

namespace Sys2Proof.Machine

/-! ## Routing a valid frame -/

/-- `Forward(L)`: RXBUF[0..5+L] to the transport, in index order, as received (R143). -/
def State.forward (s : State) (len : Nat) : State := s.txWriteAll (bytesFrom s.rxbuf 0 (6 + len))

/-- `Deliver(L)`: OUTDATA[i] <- RXBUF[5+i] for i in 0..L-1 (R144). -/
def State.deliver (s : State) (len : Nat) : State :=
  { s with outdata := storeFrom s.outdata 0 (bytesFrom s.rxbuf Config.headerLen len) }

/-- `Route(L)`: the five rows of R141, in the order of their tests. Each releases the link (R142); RESULT is L on the two
rows that deliver and 0 on the others (R145). -/
def State.route (s : State) (len : Byte) : State :=
  if s.isBcast then
    if s.rxbuf[3] = s.ownAddr then ((s.log .brCastEnd).release).setResult 0
    else ((((s.log .brCastForward).forward len.toNat).deliver len.toNat).release).setResult len
  else if s.rxbuf[3] = s.ownAddr then ((s.log .badCycle).release).setResult 0
  else if s.isBypass then (((s.log .dataBypass).forward len.toNat).release).setResult 0
  else (((s.log .dataRecv).deliver len.toNat).release).setResult len

/-! ## The byte step -/

/-- The frame's last byte, the checksum byte, stands at RXBUF[CURSOR] with CURSOR = 5 + L: recompute `chk` over
RXBUF[0..4+L] and compare (R139); on a match log "Valid Package recv." and route (R140). -/
def State.completeFrame (s : State) : State :=
  let len := s.rxbuf[4]
  if chk (bytesFrom s.rxbuf 0 (5 + len.toNat)) ≠ s.rxbuf[s.cursor] then (s.abort .crcFail).setResult 0
  else (s.log .validPackage).route len

/-- The cursor-indexed checks after byte `b` was stored at RXBUF[CURSOR] (R136 to R139); at most one applies. -/
def State.checkByte (s : State) (b : Byte) : State :=
  let c := s.cursor.val
  if c = 1 ∧ b ≠ Config.start2 then (s.abort .noStart2).setResult 0
  else if c = 3 then s.classify.setResult 0
  else if c = 4 ∧ Config.maxPayload < b.toNat then (s.abort .tooLong).setResult 0
  else if 5 ≤ c ∧ c = 5 + s.rxbuf[4].toNat then s.completeFrame
  else s.setResult 0

/-- An in-frame byte (R135): CURSOR + 1, the byte at RXBUF[CURSOR], TS re-recorded only when `restart`
(RESTART_TIMER_PER_BYTE) is true, then the checks. CURSOR never passes 25 in a run (R71, R41). -/
def inFrameByte (restart : Bool) (now : Nat) (b : Byte) (s : State) : Result :=
  if h : s.cursor.val + 1 < Config.maxFrame then
    .next (({ s with
      cursor := ⟨s.cursor.val + 1, h⟩
      rxbuf := s.rxbuf.set (s.cursor.val + 1) b h
      ts := if restart then now else s.ts }).checkByte b)
  else .fault .cursorPastBuffer

/-- An idle byte (R134): a byte other than START1 is logged and discarded; START1 starts a frame. -/
def State.idleByte (s : State) (now : Nat) (b : Byte) : State :=
  if b ≠ Config.start1 then (s.log .noStart1).setResult 0
  else
    ({ s with
      busy := true
      cursor := 0
      ts := now
      isBcast := false
      isBypass := false
      rxbuf := s.rxbuf.set 0 b }).setResult 0

/-- One byte, taken by the machine as it stands (R134, R135). -/
def byteStep (restart : Bool) (now : Nat) (b : Byte) (s : State) : Result :=
  if s.busy then inFrameByte restart now b s else .next (s.idleByte now b)

/-! ## The instruction -/

/-- The timeout guard, before any byte is read (R131). -/
def State.guard (s : State) : State := if s.timedOut then s.abort .timeout else s

/-- POLL for either value of RESTART_TIMER_PER_BYTE (R130): one sample of the clock, the guard, then at most one byte
(R132, R133, R147). -/
def poll (restart : Bool) (s : State) : Result :=
  let now := s.now
  let s := s.guard
  if s.rxAvail = 0 then .next (s.setResult 0)
  else
    match s.rxRead with
    | .error f => .fault f
    | .ok (b, s) => byteStep restart now b s

/-- POLL (R130), with the run's RESTART_TIMER_PER_BYTE (R8). -/
def execPoll (s : State) : Result :=
  whenInitialised s <| poll s.params.restartTimerPerByte s

end Sys2Proof.Machine
end

