-- ==== Sys2Proof/Machine/Send.lean ====
section
/-! DEFINITION. SEND, the framer (40_send.md). -/

namespace Sys2Proof.Machine

/-- The frame SEND assembles: DEST = ARG0, SRC = OWN_ADDR, L = ARG1, PAYLOAD = TXDATA[0..L-1], CHK (R113). -/
def State.sendFrame (s : State) : List Byte :=
  frame s.sendDest s.ownAddr s.arg1 s.sendPayload

/-- Assembly and transmission, one atomic step (R113, R114): BUSY <- 1, the frame into TXBUF[0..5+len], TXBUF[0..5+len] to
the transport in index order, BUSY <- 0. -/
def State.transmit (s : State) : State :=
  let assembled : State := { s with busy := true, txbuf := storeFrom s.txbuf 0 s.sendFrame }
  let written := assembled.txWriteAll (bytesFrom assembled.txbuf 0 (6 + s.sendLen))
  { written with busy := false }

/-- SEND (R110): "Start Sending" is logged before any check (R117); then length, address, self-address and busy are
checked in that order, the first that fails deciding RESULT (R111, R112); else the frame is sent and RESULT is 0x00. -/
def execSend (s : State) : Result :=
  whenInitialised s <|
    let s := s.log .startSending
    if Config.maxPayload < s.sendLen then .next ((s.log .lengthErr).setResult 0xFF)
    else if addrLegal s.sendDest = false then .next ((s.log .addrErr).setResult 0xFE)
    else if s.sendDest = s.ownAddr ∧ s.sendDest ≠ Config.broadcastAddr then
      .next ((s.log .sameAddrErr).setResult 0xFD)
    else if s.busy then .next (s.setResult Config.busyResult)
    else .next (s.transmit.setResult 0x00)

end Sys2Proof.Machine
end

