-- ==== Sys2Proof/Machine/Dispatch.lean ====
section
/-! DEFINITION. One arm per command of spec/opcode_table.json (30_encoding.md R80, R83). The gate of R80, "if op != 0x01
and INITED = 0", stands at the head of each meaning but INIT's. -/

namespace Sys2Proof.Machine

/-- Execute one command (R80). -/
def exec (i : Instr) (s : State) : Host.Outcome State Fault Refusal :=
  match i with
  | .init => Sys2Proof.Machine.execInit s
  | .send => Sys2Proof.Machine.execSend s
  | .poll => Sys2Proof.Machine.execPoll s
  | .isBusy => Sys2Proof.Machine.execIsBusy s
  | .dump => Sys2Proof.Machine.execDump s

end Sys2Proof.Machine
end

