-- ==== Sys2Proof/Machine/HostAccess.lean ====
section
/-! DEFINITION. The host's accesses to the register space (20_memory.md R55 to R61), the events of the environment (R63), and
where the next command comes from. -/

namespace Sys2Proof.Machine

/-- `Execute(op)` (30_encoding.md R80): an opcode outside the map is refused (R84), any other runs its command. -/
def execute (op : Byte) (s : State) : Result :=
  match decode op with
  | .error _ => .refused .reservedOpcode
  | .ok i => exec i s

/-- The value a read of a register returns (R59). It has no side effect (R60). -/
def State.readReg (s : State) : Reg → Byte
  | .cmd => 0x00
  | .arg0 => s.arg0
  | .arg1 => s.arg1
  | .result => s.result
  | .status => s.statusByte
  | .ownaddr => s.ownAddr
  | .txdata i => s.txdata[i]
  | .outdata i => s.outdata[i]

/-- `MemRead(off, 1)` (R59): the value read is handed to the host, in `reads`; a reserved offset is refused (R58). -/
def memRead (off : Byte) (s : State) : Result :=
  match Reg.atOffset off with
  | none => .refused .reservedOffset
  | some r => .next { s with reads := s.reads ++ [s.readReg r] }

/-- A write to a register (R59): CMD executes a command, ARG0, ARG1 and TXDATA take the byte, the others are read-only. -/
def writeReg (r : Reg) (v : Byte) (s : State) : Result :=
  match r with
  | .cmd => execute v s
  | .arg0 => .next { s with arg0 := v }
  | .arg1 => .next { s with arg1 := v }
  | .txdata i => .next { s with txdata := s.txdata.set i v }
  | .result => .refused .readOnlyWrite
  | .status => .refused .readOnlyWrite
  | .ownaddr => .refused .readOnlyWrite
  | .outdata _ => .refused .readOnlyWrite

/-- `MemWrite(off, 1, v)` (R59); a reserved offset is refused (R58). -/
def memWrite (off v : Byte) (s : State) : Result :=
  match Reg.atOffset off with
  | none => .refused .reservedOffset
  | some r => writeReg r v s

/-- One access of the host. A width other than one byte is refused before the offset is looked at
(R56; notes/assumptions/14.md). -/
def hostAccess (a : Access) (s : State) : Result :=
  match a with
  | .read off width => if width = 1 then memRead off s else .refused .wideAccess
  | .write off width v => if width = 1 then memWrite off v s else .refused .wideAccess

/-- One input: an access of the host, or an event of the environment (R63). -/
def handle (i : Input) (s : State) : Result :=
  match i with
  | .access a => hostAccess a s
  | .arrive b => .next (s.arrive b)
  | .lose lost => .next (s.lose lost)
  | .clock t => .next (s.setClock t)

/-- Take the next input and handle it. With none left the block does nothing, since it "acts only when the host writes
CMD" (60_exceptions.md R221; notes/assumptions/2.md). -/
def stepInput (s : State) : Result :=
  match s.inputs with
  | [] => .next s
  | i :: rest => handle i { s with inputs := rest }

/-- Put a table word where the next command comes from: the next input is the host's write of its first byte to CMD, as
wide as the word is (notes/assumptions/3.md). -/
def fetchWord (s : State) (nbits w : Nat) : State :=
  { s with inputs := .access (.write Reg.cmd.offset (nbits / 8) (BitVec.ofNat 8 w)) :: s.inputs }

end Sys2Proof.Machine
end

