-- ==== Sys2Proof/Machine/Step.lean ====
section
/-! DEFINITION. One step of the machine: the next input is handled. -/

namespace Sys2Proof.Machine

/-- One step (20_memory.md R62 to R64): one host access or one environment event, atomically. -/
def step (s : State) : Host.Outcome State Fault Refusal := stepInput s

/-- The state with a table word as its next command. A program is loaded from outside the machine, as inputs
(notes/assumptions/3.md). -/
def State.withFetchWord (s : State) (nbits w : Nat) : State := fetchWord s nbits w

end Sys2Proof.Machine
end

