-- ==== Sys2Proof/Machine/HostProgram.lean ====
section
/-! DEFINITION. Host programs (30_encoding.md R100 to R103): the encoding of each line as inputs, and how the host runs
them. No claim about the block depends on this notation (D29; notes/assumptions/23.md). -/

namespace Sys2Proof.Machine

/-- `WR <reg>, <byte>` as an input: `MemWrite(off(reg), 1, byte)` (R100). -/
def writeInput (r : Reg) (v : Byte) : Input := .access (.write r.offset 1 v)

/-- The inputs a line stands for: R100 for basic lines, R101 for pseudo-instructions, R102 for directives. -/
def lineInputs : Line → List Input
  | .wr r v => [writeInput r v]
  | .rd r => [.access (.read r.offset 1)]
  | .init a d => [writeInput .arg0 a, writeInput .arg1 d, writeInput .cmd Instr.init.opcode]
  | .loadtx bs => bs.zipIdx.map fun p => .access (.write (BitVec.ofNat 8 (0x10 + p.2)) 1 p.1)
  | .send dest len => [writeInput .arg0 dest, writeInput .arg1 len, writeInput .cmd Instr.send.opcode]
  | .poll => [writeInput .cmd Instr.poll.opcode]
  | .isBusy => [writeInput .cmd Instr.isBusy.opcode]
  | .dump dir => [writeInput .arg1 dir, writeInput .cmd Instr.dump.opcode]
  | .rx bs => bs.map .arrive
  | .clock t => [.clock t]

/-- Handle inputs in order, up to the first that stops the run. -/
def feed : List Input → State → Result
  | [], s => .next s
  | i :: is, s =>
    match step { s with inputs := i :: s.inputs } with
    | .next s' => feed is s'
    | .fault f => .fault f
    | .refused r => .refused r

/-- Whether a condition holds of the values read so far (R103); of a value not read, no condition holds. -/
def condHolds (c : Cond) (s : State) : Bool :=
  match c with
  | .readIs back v => s.reads.reverse[back]? == some v
  | .readIsNot back v => s.reads.reverse[back]?.any (· != v)

/-- How a host program ends. -/
inductive ProgramEnd where
  | done (s : State)
  /-- An access stopped the run. -/
  | fault (f : Fault)
  | refused (r : Refusal)
  /-- An `until` did not hold after its bound: the test fails (R103). -/
  | testFailed (s : State)
deriving DecidableEq, Repr

/-- The lines of a body, one after the other. -/
def runLines (body : List Line) (s : State) : ProgramEnd :=
  match feed (body.flatMap lineInputs) s with
  | .next s' => .done s'
  | .fault f => .fault f
  | .refused r => .refused r

/-- `repeat n { body }` (R103). -/
def runTimes (body : List Line) : Nat → State → ProgramEnd
  | 0, s => .done s
  | n + 1, s =>
    match runLines body s with
    | .done s' => runTimes body n s'
    | stopped => stopped

/-- `until c max n { body }` (R103): the body runs until the condition holds, at most `n` times. DESIGN CHOICE: the condition is
tested after each run of the body and not before the first, so the body runs at least once when `n` is not 0, and with
`n = 0` the test fails; R103 does not say (notes/assumptions/25.md). -/
def runUntil (c : Cond) (body : List Line) : Nat → State → ProgramEnd
  | 0, s => .testFailed s
  | n + 1, s =>
    match runLines body s with
    | .done s' => if condHolds c s' then .done s' else runUntil c body n s'
    | stopped => stopped

/-- One block of a program. -/
def runBlock (b : Block) (s : State) : ProgramEnd :=
  match b with
  | .line l => runLines [l] s
  | .times n body => runTimes body n s
  | .untilHolds c max body => runUntil c body max s

/-- A program, block after block. -/
def runProgram : Program → State → ProgramEnd
  | [], s => .done s
  | b :: bs, s =>
    match runBlock b s with
    | .done s' => runProgram bs s'
    | stopped => stopped

end Sys2Proof.Machine
end

