-- ==== Sys2Proof/Safety.lean ====
section
/-! DEFINITION. What counts as a good state and a good run, and the few words the statements are written in. -/

namespace Sys2Proof.Machine

/-- DEST of the frame in RXBUF (30_encoding.md R90). -/
abbrev State.rxDest (s : State) : Byte := s.rxbuf[2]
/-- SRC of the frame in RXBUF (R90). -/
abbrev State.rxSrc (s : State) : Byte := s.rxbuf[3]
/-- L of the frame in RXBUF (R90, R13). -/
abbrev State.rxLen (s : State) : Nat := s.rxbuf[4].toNat

/-- The invariant of the Link between two inputs: 10_state.md R41 and R30, strengthened by what makes it inductive (what an
idle machine holds, R142 and R197; the flags before cursor 3, R134; the flags as the classification of DEST and SRC, R137)
and by what INIT fixes (R23, R24). -/
structure State.Inv (s : State) : Prop where
  /-- An idle machine has CURSOR = 0 (R142, R197, R230). -/
  idle : s.busy = false → s.cursor.val = 0
  /-- R41: "CURSOR <= 24". -/
  cursorLe : s.busy = true → s.cursor.val ≤ 24
  /-- R41: "RXBUF[0] = 0xEF". -/
  marker1 : s.busy = true → s.rxbuf[0] = 0xEF
  /-- R41: "CURSOR >= 1 implies RXBUF[1] = 0xFA". -/
  marker2 : s.busy = true → 1 ≤ s.cursor.val → s.rxbuf[1] = 0xFA
  /-- R41: "CURSOR >= 4 implies RXBUF[4] <= 20 and CURSOR <= 4 + RXBUF[4]". -/
  lenByte : s.busy = true → 4 ≤ s.cursor.val → s.rxLen ≤ 20 ∧ s.cursor.val ≤ 4 + s.rxLen
  /-- Before cursor 3 the frame in progress is not classified (R134, R137). -/
  fresh : s.busy = true → s.cursor.val < 3 → s.isBcast = false ∧ s.isBypass = false
  /-- From cursor 3 on the flags are the classification of DEST and SRC (R137, R99). -/
  classified : s.busy = true → 3 ≤ s.cursor.val →
    (s.isBcast = true ↔ s.rxDest = 0x01 ∧ s.rxSrc = 0x01) ∧
    (s.isBypass = true ↔ ¬(s.rxDest = 0x01 ∧ s.rxSrc = 0x01) ∧ s.rxDest ≠ s.ownAddr)
  /-- CLOCK and TS are TIME_WIDTH-bit values (R22, R42, R11). -/
  timesFit : s.clock < 2 ^ s.params.timeWidth ∧ s.ts < 2 ^ s.params.timeWidth
  /-- RXQ holds no more bytes than RXQ_DEPTH lets it (R8, D25). -/
  queueFits : ∀ depth, s.params.rxqDepth = some depth → s.rxq.length ≤ depth
  /-- R30: IS_BCAST and IS_BYPASS are never both 1. -/
  exclusive : s.isBcast = true → s.isBypass = false
  /-- R23: after a successful INIT the own address is in [0x01, 0x7F]. -/
  address : s.inited = true → 1 ≤ s.ownAddr.toNat ∧ s.ownAddr.toNat ≤ 0x7F
  /-- Before it, OWN_ADDR = 0x00, DEBUG = 0 and no frame is in progress (R23, R25, R173). -/
  beforeInit : s.inited = false → s.ownAddr = 0 ∧ s.debug = false ∧ s.busy = false

/-- LOGOUT after some tags: they are emitted, in order, when DEBUG = 1, and not at all when DEBUG = 0 (60_exceptions.md R216). -/
def State.logAfter (s : State) (tags : List Tag) : List LogLine :=
  if s.debug then s.logout ++ tags.map .tag else s.logout

/-- TS after a POLL that stored an in-frame byte: the clock when RESTART_TIMER_PER_BYTE is true, else unchanged (R28, R135). -/
def State.tsAfterByte (s : State) : Nat := if s.params.restartTimerPerByte then s.clock else s.ts

/-- The time elapsed since TS, `signed_W((now - s.TS) mod 2^W)` with W = TIME_WIDTH (41_receive.md R131). -/
abbrev State.elapsedTime (s : State) : Int := Int.bmod (s.clock - s.ts) (2 ^ s.params.timeWidth)

/-- RXQ has reached its capacity (00_scope.md R8, RXQ_DEPTH). -/
abbrev State.QueueFull (s : State) : Prop := ∃ depth, s.params.rxqDepth = some depth ∧ depth ≤ s.rxq.length

/-- No timeout at this clock: the machine is idle, or the elapsed time is at most TIMEOUT (41_receive.md R131). -/
abbrev State.inTime (s : State) : Prop := ¬(s.busy = true ∧ 100 < s.elapsedTime)

/-- `n` POLLs in a row, with no other input between them (95_test_vectors.md, conventions). -/
def State.polls : Nat → State → Result
  | 0, s => .next s
  | n + 1, s =>
    match exec .poll s with
    | .next s' => State.polls n s'
    | .fault f => .fault f
    | .refused r => .refused r

/-- Apply a function to the next state of an outcome; a stop stays as it is. -/
def mapNext (f : State → State) : Result → Result
  | .next s => .next (f s)
  | .fault e => .fault e
  | .refused r => .refused r

/-- The state without the log: DEBUG, LOGOUT and the draw counter of DUMP at fixed values. -/
def State.forgetLog (s : State) : State := { s with debug := false, logout := [], draws := 0 }

end Sys2Proof.Machine
end

