-- ==== Sys2Proof/Certificates/Slice0/Obligations.lean ====
section
/-! DEFINITION. The statements for the provers. Each docstring names the rules of spec/ it rests on. A next state is given as
the state before with the fields the instruction writes, so every field not named there is unchanged: that is its frame. -/

open Sys2Proof Sys2Proof.Machine

/-! ## Encoding and decoding -/

/-- 30_encoding.md R83 and R84 (the spec's decision D2): the opcode map, complete; words written out from the table. -/
def Obligations.DecodeFollowsOpcodeMap : Prop :=
  decode 0b00000001 = .ok .init ∧ decode 0b00000010 = .ok .send ∧ decode 0b00000011 = .ok .poll ∧
  decode 0b00000100 = .ok .isBusy ∧ decode 0b00000101 = .ok .dump ∧
  ∀ op : Byte, op.toNat = 0 ∨ 6 ≤ op.toNat → decode op = .error .reservedOpcode

/-- R81 and R86 (D2): a command is one byte, decoding its encoding gives it back with the rest untouched, and each opcode byte
is the encoding of the one command it decodes to. -/
def Obligations.DecodeEncodeRoundTrip : Prop :=
  (∀ (i : Instr) (rest : List Byte), i.wf = true → decodeBytes (encode i ++ rest) = .ok (i, rest)) ∧
  (∀ (op : Byte) (i : Instr), decode op = .ok i → encode i = [op])

/-- 20_memory.md R55 and R58 (D1, D3): the register map, both ways; the offsets of no register are exactly the reserved ones. -/
def Obligations.RegisterMapIsExact : Prop :=
  (∀ r : Reg, Reg.atOffset r.offset = some r) ∧
  (∀ (off : Byte) (r : Reg), Reg.atOffset off = some r → r.offset = off) ∧
  (∀ off : Byte, Reg.atOffset off = none ↔
    (0x06 ≤ off.toNat ∧ off.toNat ≤ 0x0F) ∨ (0x24 ≤ off.toNat ∧ off.toNat ≤ 0x2F) ∨ 0x44 ≤ off.toNat)

/-! ## The step -/

/-- R80 (D2), R59, R62: a step whose next input is the host's write of a byte to CMD, offset 0x00, is that command's `exec` on
the state with the input taken away; nothing else happens around it. -/
def Obligations.StepRunsDecodedCommand : Prop :=
  ∀ (s : State) (op : Byte) (i : Instr) (rest : List Input),
    s.inputs = .access (.write 0x00 1 op) :: rest → decode op = .ok i →
    step s = exec i { s with inputs := rest }

/-- The model's convention (notes/assumptions/3.md): the word that `withFetchWord` places is the very next command. -/
def Obligations.FetchedWordRuns : Prop :=
  ∀ (s : State) (w : Nat) (i : Instr), w < 256 → decodeTableWord 8 w = some i →
    step (s.withFetchWord 8 w) = exec i s

/-- R84, R56 and R58 (D2, D3): what a host access is refused for: a width other than one byte, a reserved offset, a write to
RESULT, STATUS, OWNADDR or OUTDATA, a reserved opcode. That a wide access to a reserved offset is refused as wide is the
model's choice (notes/assumptions/14.md). -/
def Obligations.HostAccessRefusals : Prop :=
  (∀ (s : State) (off : Byte) (w : Nat) (rest : List Input), w ≠ 1 →
    s.inputs = .access (.read off w) :: rest → step s = .refused .wideAccess) ∧
  (∀ (s : State) (off v : Byte) (w : Nat) (rest : List Input), w ≠ 1 →
    s.inputs = .access (.write off w v) :: rest → step s = .refused .wideAccess) ∧
  (∀ (s : State) (off : Byte) (rest : List Input), Reg.atOffset off = none →
    s.inputs = .access (.read off 1) :: rest → step s = .refused .reservedOffset) ∧
  (∀ (s : State) (off v : Byte) (rest : List Input), Reg.atOffset off = none →
    s.inputs = .access (.write off 1 v) :: rest → step s = .refused .reservedOffset) ∧
  (∀ (s : State) (r : Reg) (v : Byte) (rest : List Input), r.writable = false →
    s.inputs = .access (.write r.offset 1 v) :: rest → step s = .refused .readOnlyWrite) ∧
  (∀ (s : State) (op : Byte) (rest : List Input), op.toNat = 0 ∨ 6 ≤ op.toNat →
    s.inputs = .access (.write 0x00 1 op) :: rest → step s = .refused .reservedOpcode)

/-- R59 and R61 (D1): a host write to ARG0, ARG1 or TXDATA[i] changes that register and nothing else. -/
def Obligations.HostWriteSetsOperand : Prop :=
  (∀ (s : State) (v : Byte) (rest : List Input), s.inputs = .access (.write 0x01 1 v) :: rest →
    step s = .next { s with inputs := rest, arg0 := v }) ∧
  (∀ (s : State) (v : Byte) (rest : List Input), s.inputs = .access (.write 0x02 1 v) :: rest →
    step s = .next { s with inputs := rest, arg1 := v }) ∧
  (∀ (s : State) (i : Fin 20) (v : Byte) (rest : List Input),
    s.inputs = .access (.write (BitVec.ofNat 8 (0x10 + i.val)) 1 v) :: rest →
    step s = .next { s with inputs := rest, txdata := s.txdata.set i v })

/-- R59 and R60 (D1, D3): a host read of any defined offset hands the host the register's value and has no other effect; CMD
reads 0x00. -/
def Obligations.HostReadReturnsRegister : Prop :=
  ∀ (s : State) (off : Byte) (r : Reg) (rest : List Input),
    s.inputs = .access (.read off 1) :: rest → Reg.atOffset off = some r →
    step s = .next { s with
      inputs := rest
      reads := s.reads ++ [match r with
        | .cmd => 0x00
        | .arg0 => s.arg0
        | .arg1 => s.arg1
        | .result => s.result
        | .status => s.statusByte
        | .ownaddr => s.ownAddr
        | .txdata i => s.txdata[i]
        | .outdata i => s.outdata[i]] }

/-- 30_encoding.md R101 (D29), R61: the inputs of each pseudo-instruction put its operands in ARG0, ARG1 or TXDATA and then run its
command. -/
def Obligations.PseudoInstructionsRunTheirCommand : Prop :=
  (∀ (s : State) (a d : Byte), feed (lineInputs (.init a d)) s = exec .init { s with arg0 := a, arg1 := d }) ∧
  (∀ (s : State) (dest len : Byte),
    feed (lineInputs (.send dest len)) s = exec .send { s with arg0 := dest, arg1 := len }) ∧
  (∀ s : State, feed (lineInputs .poll) s = exec .poll s) ∧
  (∀ s : State, feed (lineInputs .isBusy) s = exec .isBusy s) ∧
  (∀ (s : State) (dir : Byte), feed (lineInputs (.dump dir)) s = exec .dump { s with arg1 := dir }) ∧
  (∀ (s : State) (bs : List Byte), bs.length ≤ 20 →
    ∃ txdata' : Vector Byte 20,
      (∀ (i : Nat) (h : i < 20), txdata'[i] = if hi : i < bs.length then bs[i] else s.txdata[i]) ∧
      feed (lineInputs (.loadtx bs)) s = .next { s with txdata := txdata' })

/-- 10_state.md R35 (D32): STATUS mirrors BUSY, INITED and DEBUG in bits 0, 1 and 2, and bits 7:3 read as 0. -/
def Obligations.StatusMirrorsFlags : Prop :=
  ∀ s : State, s.statusByte.getLsbD 0 = s.busy ∧ s.statusByte.getLsbD 1 = s.inited ∧
    s.statusByte.getLsbD 2 = s.debug ∧ ∀ k, 3 ≤ k → s.statusByte.getLsbD k = false

/-- 10_state.md R36, with the offset of R55, the read without side effect of R60 and the refusal of R58 (D1, D3;
notes/assumptions/22.md): OWNADDR, at offset 0x05, reads OWN_ADDR, cannot be written, and is 0x00 at reset. -/
def Obligations.OwnaddrReadsOwnAddr : Prop :=
  (∀ (s : State) (rest : List Input), s.inputs = .access (.read 0x05 1) :: rest →
    step s = .next { s with inputs := rest, reads := s.reads ++ [s.ownAddr] }) ∧
  (∀ (s : State) (v : Byte) (rest : List Input), s.inputs = .access (.write 0x05 1 v) :: rest →
    step s = .refused .readOnlyWrite) ∧
  State.reset.readReg .ownaddr = 0x00

/-- R63 (D4, D25), R8 and R221 (D24): an arriving byte joins the end of RXQ unless RXQ is full, and is then lost; queued bytes, any
of them at once, are lost only when RXQ is full; a clock event sets CLOCK, a W-bit value (R11); with no input left nothing changes. The
model's choices here: what a full queue does, which R8 and D25 leave open (notes/assumptions/10.md), that a clock event may
set any value (19.md), and that a step with no input is a step at all (2.md). -/
def Obligations.EnvironmentEvents : Prop :=
  (∀ (s : State) (b : Byte) (rest : List Input), s.inputs = .arrive b :: rest → ¬s.QueueFull →
    step s = .next { s with inputs := rest, rxq := s.rxq ++ [b] }) ∧
  (∀ (s : State) (b : Byte) (rest : List Input), s.inputs = .arrive b :: rest → s.QueueFull →
    step s = .next { s with inputs := rest }) ∧
  (∀ (s : State) (t : Nat) (rest : List Input), s.inputs = .clock t :: rest →
    step s = .next { s with inputs := rest, clock := t % 2 ^ s.params.timeWidth }) ∧
  (∀ (s : State) (lost : List Nat) (rest : List Input), s.inputs = .lose lost :: rest → s.QueueFull →
    step s = .next { s with
      inputs := rest, rxq := (s.rxq.zipIdx.filter fun p => !lost.contains p.2).map Prod.fst }) ∧
  (∀ (s : State) (lost : List Nat) (rest : List Input), s.inputs = .lose lost :: rest → ¬s.QueueFull →
    step s = .next { s with inputs := rest }) ∧
  (∀ s : State, s.inputs = [] → step s = .next s)

/-! ## Reset -/

/-- 70_reset_and_hazards.md R230 (BUSY and CURSOR from the source, the rest decided in D22): whatever the parameters of R8 are and the
buffers, RXQ and CLOCK hold, every other element has its reset value, and STATUS, OWNADDR and CMD read 0x00. `State.reset` is one such state; its
choice of buffers, RXQ and CLOCK is the model's (notes/assumptions/5.md, 6.md); its parameters are R8's defaults (11.md, 12.md), with no
bound on RXQ, the model's choice (10.md). -/
def Obligations.ResetValues : Prop :=
  (∀ (p : Config.Params) (txb rxb : Vector Byte 26) (txd outd : Vector Byte 20) (q : List Byte) (clk : Nat),
    let s := State.resetWith p txb rxb txd outd q clk
    s.busy = false ∧ s.cursor.val = 0 ∧ s.ownAddr = 0 ∧ s.inited = false ∧ s.debug = false ∧ s.ts = 0 ∧
    s.isBcast = false ∧ s.isBypass = false ∧ s.arg0 = 0 ∧ s.arg1 = 0 ∧ s.result = 0 ∧
    s.readReg .status = 0 ∧ s.readReg .ownaddr = 0 ∧ s.readReg .cmd = 0 ∧ s.txout = [] ∧ s.logout = []) ∧
  (∃ txb rxb txd outd q clk, State.reset = State.resetWith Config.defaultParams txb rxb txd outd q clk) ∧
  Config.defaultParams.timeWidth = 32 ∧ Config.defaultParams.restartTimerPerByte = false ∧
  Config.defaultParams.rxqDepth = none

/-- The invariant of 10_state.md R41 (which the spec marks as derived), as `State.Inv` strengthens it, holds after reset whatever
the parameters of R8 are and the buffers, RXQ and CLOCK hold. -/
def Obligations.InvHoldsAtReset : Prop :=
  ∀ (p : Config.Params) (txb rxb : Vector Byte 26) (txd outd : Vector Byte 20) (q : List Byte) (clk : Nat),
    (State.resetWith p txb rxb txd outd q clk).Inv

/-! ## Checksum and frame -/

/-- R94: the checksum is the XOR fold from 0xFF, in order, and a frame's last byte is the checksum of all the bytes before it. -/
def Obligations.ChecksumIsXorFold : Prop :=
  chk [] = 0xFF ∧ (∀ (bs : List Byte) (b : Byte), chk (bs ++ [b]) = chk bs ^^^ b) ∧
  (∀ (dest src len : Byte) (payload : List Byte),
    frame dest src len payload =
      ([0xEF, 0xFA, dest, src, len] ++ payload) ++ [chk ([0xEF, 0xFA, dest, src, len] ++ payload)])

/-- R95 (marked derived): for every frame the checksum is `0xEA ^ DEST ^ SRC ^ L` XORed with every payload byte. -/
def Obligations.FrameChecksumClosedForm : Prop :=
  ∀ (dest src len : Byte) (payload : List Byte),
    (frame dest src len payload).getLast? =
      some (payload.foldr (· ^^^ ·) (0xEA ^^^ dest ^^^ src ^^^ len))

/-- R96 (marked derived): over a fixed byte range, a change passes undetected exactly when the XOR of all changes is zero, and so
a change confined to one byte of the range is always detected. -/
def Obligations.ChecksumDetectsChanges : Prop :=
  (∀ (old new : List Byte) (oldChk newChk : Byte), old.length = new.length → chk old = oldChk →
    (chk new = newChk ↔ (List.zipWith (· ^^^ ·) old new).foldr (· ^^^ ·) (oldChk ^^^ newChk) = 0)) ∧
  (∀ (old : List Byte) (k : Nat) (h : k < old.length) (b : Byte), b ≠ old[k] → chk (old.set k b) ≠ chk old)

/-! ## SEND -/

/-- R113, R114 and R115, and for LOGOUT R117 (D13; notes/assumptions/22.md): a SEND with valid operands on an idle link writes the frame to TXBUF[0..5+len], leaves TXBUF[6+len..25],
appends those 6 + len bytes to TXOUT in index order, leaves BUSY clear and writes RESULT 0x00; it changes nothing else but
LOGOUT. -/
def Obligations.SendTransmitsFrame : Prop :=
  ∀ s : State, s.inited = true → s.arg1.toNat ≤ 20 → 1 ≤ s.arg0.toNat → s.arg0.toNat ≤ 0x7F →
    (s.arg0 ≠ s.ownAddr ∨ s.arg0 = 0x01) → s.busy = false →
    let body := [0xEF, 0xFA, s.arg0, s.ownAddr, s.arg1] ++ s.txdata.toList.take s.arg1.toNat
    let sent := body ++ [chk body]
    sent.length = 6 + s.arg1.toNat ∧
    ∃ txbuf' : Vector Byte 26,
      (∀ (i : Nat) (h : i < 26), txbuf'[i] = if hi : i < sent.length then sent[i] else s.txbuf[i]) ∧
      exec .send s = .next { s with
        txbuf := txbuf', txout := s.txout ++ sent, busy := false, result := 0x00,
        logout := s.logAfter [.startSending] }

/-- R111 (the order of the checks is D9), R112 (D10), R116 (D12) and R117 (D13; notes/assumptions/22.md). That every busy SEND
reports one and the same value, `Config.busyResult`, is the model's choice (notes/assumptions/7.md). A SEND that fails a check, the first that fails in the
order length, address, self-address, busy, writes that check's code to RESULT and changes nothing else but LOGOUT. -/
def Obligations.SendRejections : Prop :=
  (∀ s : State, s.inited = true → 20 < s.arg1.toNat →
    exec .send s = .next { s with result := 0xFF, logout := s.logAfter [.startSending, .lengthErr] }) ∧
  (∀ s : State, s.inited = true → s.arg1.toNat ≤ 20 → (s.arg0.toNat < 1 ∨ 0x7F < s.arg0.toNat) →
    exec .send s = .next { s with result := 0xFE, logout := s.logAfter [.startSending, .addrErr] }) ∧
  (∀ s : State, s.inited = true → s.arg1.toNat ≤ 20 → 1 ≤ s.arg0.toNat → s.arg0.toNat ≤ 0x7F →
    s.arg0 = s.ownAddr → s.arg0 ≠ 0x01 →
    exec .send s = .next { s with result := 0xFD, logout := s.logAfter [.startSending, .sameAddrErr] }) ∧
  (∀ s : State, s.inited = true → s.arg1.toNat ≤ 20 → 1 ≤ s.arg0.toNat → s.arg0.toNat ≤ 0x7F →
    (s.arg0 ≠ s.ownAddr ∨ s.arg0 = 0x01) → s.busy = true →
    exec .send s = .next { s with result := Config.busyResult, logout := s.logAfter [.startSending] })

/-- R112 (D10): the busy result is none of SEND's four codes 0, -1, -2, -3. Nothing more is known of it
(notes/assumptions/7.md). -/
def Obligations.BusyResultIsNoStatusCode : Prop :=
  Config.busyResult ≠ 0x00 ∧ Config.busyResult ≠ 0xFF ∧ Config.busyResult ≠ 0xFE ∧ Config.busyResult ≠ 0xFD

/-! ## INIT, ISBUSY, DUMP -/

/-- R170: INIT, CMD = 0x01. Refused after a success; refused with ARG1[7:1] set; RESULT 0 and nothing else on an own address
outside [0x01, 0x7F]; else OWN_ADDR, DEBUG and INITED are set, the transport is initialised with BAUD and RESULT is 1. -/
def Obligations.InitFollowsItsRule : Prop :=
  decode 0x01 = .ok .init ∧
  (∀ s : State, s.inited = true → exec .init s = .refused .reInit) ∧
  (∀ s : State, s.inited = false → 2 ≤ s.arg1.toNat → exec .init s = .refused .badOperand) ∧
  (∀ s : State, s.inited = false → s.arg1.toNat < 2 → (s.arg0.toNat < 1 ∨ 0x7F < s.arg0.toNat) →
    exec .init s = .next { s with result := 0x00 }) ∧
  (∀ s : State, s.inited = false → s.arg1.toNat < 2 → 1 ≤ s.arg0.toNat → s.arg0.toNat ≤ 0x7F →
    exec .init s = .next { s with
      ownAddr := s.arg0, debug := s.arg1.getLsbD 0, inited := true, baud := some Config.baud, result := 0x01 })

/-- R175: ISBUSY, CMD = 0x04, writes BUSY, zero-extended to a byte, to RESULT and does nothing else; in particular it does not run
the timeout guard, whatever CLOCK and TS are. The same bit reads in STATUS[0]. A SEND leaves BUSY as it found it, so ISBUSY
never reads 1 because of a send. -/
def Obligations.IsBusyReportsBusy : Prop :=
  decode 0x04 = .ok .isBusy ∧
  (∀ s : State, s.inited = true →
    exec .isBusy s = .next { s with result := if s.busy = true then 0x01 else 0x00 }) ∧
  (∀ s : State, s.statusByte.getLsbD 0 = s.busy) ∧
  (∀ s t : State, exec .send s = .next t → t.busy = s.busy)

/-- R176 and R177 (D20): DUMP refuses a direction above 1; with DEBUG = 0 it has no effect; with DEBUG = 1 it emits lines for the
chosen buffer and changes nothing else of the block. The lines are the free value DUMP_TEXT, and the draw counter is the
model's own field (notes/assumptions/9.md). -/
def Obligations.DumpOutcomes : Prop :=
  (∀ s : State, s.inited = true → 2 ≤ s.arg1.toNat → exec .dump s = .refused .badOperand) ∧
  (∀ s : State, s.inited = true → s.arg1.toNat < 2 → s.debug = false → exec .dump s = .next s) ∧
  (∀ s : State, s.inited = true → s.arg1.toNat < 2 → s.debug = true →
    exec .dump s = .next { s with
      logout := s.logout ++
        (Config.dumpText s.draws (if s.arg1 = 0 then s.txbuf else s.rxbuf)).map .dump
      draws := s.draws + 1 })

/-- R173 (D16): before the first successful INIT every other command is refused. -/
def Obligations.CommandsNeedInit : Prop :=
  ∀ (i : Instr) (s : State), i ≠ .init → s.inited = false → exec i s = .refused .notInitialised

/-! ## POLL -/

/-- R131 (its last sentence is marked derived), R207, for every TIME_WIDTH W (D5): the timeout condition is BUSY = 1 and the
signed wrap-around difference strictly above 100; as an unsigned W-bit difference that is a range, above 100 and below
2^(W-1), so with R8's default W = 32 (notes/assumptions/11.md) a difference of 2^31 or more does not abort. An elapsed
time of 100 never aborts; 101 does when W-bit signed values reach it, which is when W is at least 8. -/
def Obligations.TimeoutThreshold : Prop :=
  (∀ s : State, s.timedOut = true ↔ s.busy = true ∧ 100 < s.elapsedTime) ∧
  (∀ s : State, s.busy = true →
    (s.timedOut = true ↔
      100 < ((s.clock : Int) - s.ts) % 2 ^ s.params.timeWidth ∧
      2 * (((s.clock : Int) - s.ts) % 2 ^ s.params.timeWidth) < 2 ^ s.params.timeWidth)) ∧
  (∀ s : State, s.clock = (s.ts + 100) % 2 ^ s.params.timeWidth → s.timedOut = false) ∧
  (∀ s : State, s.busy = true → 8 ≤ s.params.timeWidth →
    s.clock = (s.ts + 101) % 2 ^ s.params.timeWidth → s.timedOut = true)

/-- R131, R132 (D7), R197 (D17), R199: when the guard fires the frame is aborted, BUSY and CURSOR cleared and "TimeOut" logged, and
the same POLL then goes on as from that idle state; with no byte available that is all it does. -/
def Obligations.PollTimeoutAborts : Prop :=
  ∀ s : State, s.inited = true → s.busy = true → 100 < s.elapsedTime →
    exec .poll s = exec .poll { s with busy := false, cursor := 0, logout := s.logAfter [.timeOut] } ∧
    (s.rxq = [] → exec .poll s = .next { s with
      busy := false, cursor := 0, logout := s.logAfter [.timeOut], result := 0 })

/-- R133 (D27): with no byte available and no timeout, POLL writes RESULT 0 and changes nothing else. -/
def Obligations.PollWithoutByteWaits : Prop :=
  ∀ s : State, s.inited = true → s.inTime → s.rxq = [] → exec .poll s = .next { s with result := 0 }

/-- R134: an idle POLL that finds a byte consumes it. Any byte but 0xEF is logged and discarded; 0xEF starts a frame. -/
def Obligations.PollIdleByte : Prop :=
  (∀ (s : State) (b : Byte) (rest : List Byte), s.inited = true → s.busy = false → s.rxq = b :: rest → b ≠ 0xEF →
    exec .poll s = .next { s with rxq := rest, result := 0, logout := s.logAfter [.noStart1] }) ∧
  (∀ (s : State) (rest : List Byte), s.inited = true → s.busy = false → s.rxq = 0xEF :: rest →
    exec .poll s = .next { s with
      rxq := rest, busy := true, cursor := 0, ts := s.clock, isBcast := false, isBypass := false
      rxbuf := s.rxbuf.set 0 0xEF, result := 0 })

/-- R136, with R135's storing of the byte, whether TS is re-recorded as R135 (D6; notes/assumptions/12.md) has it, and what an abort
leaves alone as R197 (D17; 22.md) has it: at cursor 1 a byte other than 0xFA aborts with "No Start2" and RESULT 0; 0xFA is only
stored. -/
def Obligations.PollSecondMarker : Prop :=
  ∀ (s : State) (b : Byte) (rest : List Byte), s.inited = true → s.busy = true → s.inTime → s.cursor.val = 0 →
    s.rxq = b :: rest →
    (b ≠ 0xFA → exec .poll s = .next { s with
      rxq := rest, rxbuf := s.rxbuf.set 1 b, ts := s.tsAfterByte
      busy := false, cursor := 0, logout := s.logAfter [.noStart2], result := 0 }) ∧
    (b = 0xFA → exec .poll s = .next { s with
      rxq := rest, rxbuf := s.rxbuf.set 1 b, ts := s.tsAfterByte, cursor := 1, result := 0 })

/-- R146 (marked derived), R135 (for TS, D6; notes/assumptions/12.md): at cursor 2 (DEST) and at cursor 5..4+L (payload) POLL only stores the byte. -/
def Obligations.PollStoresUncheckedByte : Prop :=
  ∀ (s : State) (b : Byte) (rest : List Byte) (h : s.cursor.val + 1 < 26), s.inited = true → s.busy = true → s.inTime →
    s.rxq = b :: rest →
    (s.cursor.val = 1 ∨ (4 ≤ s.cursor.val ∧ s.cursor.val < 4 + s.rxLen)) →
    exec .poll s = .next { s with
      rxq := rest, rxbuf := s.rxbuf.set (s.cursor.val + 1) b h, ts := s.tsAfterByte
      cursor := ⟨s.cursor.val + 1, h⟩, result := 0 }

/-- R137: at cursor 3, DEST = SRC = 0x01 sets IS_BCAST; else DEST other than OWN_ADDR sets IS_BYPASS; else neither flag changes.
RESULT is 0, no other check happens, and TS changes as R135 (D6; notes/assumptions/12.md) has it. -/
def Obligations.PollClassifiesFrame : Prop :=
  ∀ (s : State) (src : Byte) (rest : List Byte), s.inited = true → s.busy = true → s.inTime → s.cursor.val = 2 →
    s.rxq = src :: rest →
    exec .poll s = .next { s with
      rxq := rest, rxbuf := s.rxbuf.set 3 src, ts := s.tsAfterByte, cursor := 3, result := 0
      isBcast := if s.rxDest = 0x01 ∧ src = 0x01 then true else s.isBcast
      isBypass := if ¬(s.rxDest = 0x01 ∧ src = 0x01) ∧ s.rxDest ≠ s.ownAddr then true else s.isBypass }

/-- R138: at cursor 4 a length byte above 20 aborts with "To long" and RESULT 0; any other is stored as the frame's L.
TS changes as R135 (D6; notes/assumptions/12.md) has it; what the abort leaves alone is R197's (D17; 22.md). -/
def Obligations.PollLengthByte : Prop :=
  ∀ (s : State) (b : Byte) (rest : List Byte), s.inited = true → s.busy = true → s.inTime → s.cursor.val = 3 →
    s.rxq = b :: rest →
    (20 < b.toNat → exec .poll s = .next { s with
      rxq := rest, rxbuf := s.rxbuf.set 4 b, ts := s.tsAfterByte
      busy := false, cursor := 0, logout := s.logAfter [.toLong], result := 0 }) ∧
    (b.toNat ≤ 20 → exec .poll s = .next { s with
      rxq := rest, rxbuf := s.rxbuf.set 4 b, ts := s.tsAfterByte, cursor := 4, result := 0 })

/-- R139: at cursor 5 + L the byte is compared with the checksum of RXBUF[0..4+L]; a mismatch aborts with "CRC Fail" and RESULT 0,
forwarding and delivering nothing. At cursor 5..4+L no check applies. TS changes as R135 (D6; notes/assumptions/12.md) has it;
what the abort leaves alone is R197's (D17; 22.md). -/
def Obligations.PollChecksumMismatchAborts : Prop :=
  (∀ (s : State) (b : Byte) (rest : List Byte) (h : s.cursor.val + 1 < 26), s.inited = true → s.busy = true → s.inTime →
    s.rxq = b :: rest → s.cursor.val = 4 + s.rxLen → b ≠ chk (s.rxbuf.toList.take (5 + s.rxLen)) →
    exec .poll s = .next { s with
      rxq := rest, rxbuf := s.rxbuf.set (s.cursor.val + 1) b h, ts := s.tsAfterByte
      busy := false, cursor := 0, logout := s.logAfter [.crcFail], result := 0 }) ∧
  (∀ (s : State) (b : Byte) (rest : List Byte) (h : s.cursor.val + 1 < 26), s.inited = true → s.busy = true → s.inTime →
    s.rxq = b :: rest → 4 ≤ s.cursor.val → s.cursor.val < 4 + s.rxLen →
    exec .poll s = .next { s with
      rxq := rest, rxbuf := s.rxbuf.set (s.cursor.val + 1) b h, ts := s.tsAfterByte
      cursor := ⟨s.cursor.val + 1, h⟩, result := 0 })

/-- R141, rows "end of broadcast cycle" and "bad cycle", with R140 and R142 (D17, D19) and R201: a valid frame whose SRC is this
node's own address is dropped, whatever IS_BYPASS says: nothing is forwarded and nothing delivered. -/
def Obligations.PollDropsLoopBack : Prop :=
  ∀ (s : State) (b : Byte) (rest : List Byte) (h : s.cursor.val + 1 < 26), s.inited = true → s.busy = true → s.inTime →
    s.rxq = b :: rest → s.cursor.val = 4 + s.rxLen → b = chk (s.rxbuf.toList.take (5 + s.rxLen)) →
    s.rxSrc = s.ownAddr →
    exec .poll s = .next { s with
      rxq := rest, rxbuf := s.rxbuf.set (s.cursor.val + 1) b h, ts := s.tsAfterByte, busy := false, cursor := 0
      logout := s.logAfter [.validPackage, if s.isBcast = true then .brCastEnd else .badCycle], result := 0 }

/-- R143 and the row "bypass relay" of R141, with R142 (D17), and for the order of the log tags
R140 (D19; notes/assumptions/22.md): a valid bypass frame of another node is forwarded once, RXBUF[0..5+L]
in index order exactly as received, and not delivered. -/
def Obligations.PollForwardsBypass : Prop :=
  ∀ (s : State) (b : Byte) (rest : List Byte) (h : s.cursor.val + 1 < 26), s.inited = true → s.busy = true → s.inTime →
    s.rxq = b :: rest → s.cursor.val = 4 + s.rxLen → b = chk (s.rxbuf.toList.take (5 + s.rxLen)) →
    s.rxSrc ≠ s.ownAddr → s.isBcast = false → s.isBypass = true →
    exec .poll s = .next { s with
      rxq := rest, rxbuf := s.rxbuf.set (s.cursor.val + 1) b h, ts := s.tsAfterByte, busy := false, cursor := 0
      txout := s.txout ++ (s.rxbuf.toList.take (5 + s.rxLen) ++ [b])
      logout := s.logAfter [.validPackage, .dataBypass], result := 0 }

/-- The row "unicast to self" of R141, with R142, R144 (D17, D18) and R145, and for the order of the log
tags R140 (D19; notes/assumptions/22.md): the payload goes to OUTDATA[0..L-1], OUTDATA[L..19] is
unchanged, nothing is forwarded and RESULT is L. -/
def Obligations.PollDeliversUnicast : Prop :=
  ∀ (s : State) (b : Byte) (rest : List Byte) (h : s.cursor.val + 1 < 26), s.inited = true → s.busy = true → s.inTime →
    s.rxq = b :: rest → s.cursor.val = 4 + s.rxLen → b = chk (s.rxbuf.toList.take (5 + s.rxLen)) →
    s.rxSrc ≠ s.ownAddr → s.isBcast = false → s.isBypass = false →
    ∃ outdata' : Vector Byte 20,
      (∀ (i : Nat) (hi : i < 20), outdata'[i] = if i < s.rxLen then s.rxbuf[5 + i]'(by change _ < 26; omega) else s.outdata[i]) ∧
      exec .poll s = .next { s with
        rxq := rest, rxbuf := s.rxbuf.set (s.cursor.val + 1) b h, ts := s.tsAfterByte, busy := false, cursor := 0
        outdata := outdata', logout := s.logAfter [.validPackage, .dataRecv], result := BitVec.ofNat 8 s.rxLen }

/-- The row "broadcast relay" of R141, with R142, R143, R144 (D17, D18, D26) and R145, and for the order of the log
tags R140 (D19; notes/assumptions/22.md): the frame is forwarded as received and its
payload delivered, in one step, and RESULT is L. -/
def Obligations.PollRelaysBroadcast : Prop :=
  ∀ (s : State) (b : Byte) (rest : List Byte) (h : s.cursor.val + 1 < 26), s.inited = true → s.busy = true → s.inTime →
    s.rxq = b :: rest → s.cursor.val = 4 + s.rxLen → b = chk (s.rxbuf.toList.take (5 + s.rxLen)) →
    s.rxSrc ≠ s.ownAddr → s.isBcast = true →
    ∃ outdata' : Vector Byte 20,
      (∀ (i : Nat) (hi : i < 20), outdata'[i] = if i < s.rxLen then s.rxbuf[5 + i]'(by change _ < 26; omega) else s.outdata[i]) ∧
      exec .poll s = .next { s with
        rxq := rest, rxbuf := s.rxbuf.set (s.cursor.val + 1) b h, ts := s.tsAfterByte, busy := false, cursor := 0
        txout := s.txout ++ (s.rxbuf.toList.take (5 + s.rxLen) ++ [b]), outdata := outdata'
        logout := s.logAfter [.validPackage, .brCastForward], result := BitVec.ofNat 8 s.rxLen }

/-- R145: a POLL writes RESULT = L exactly when it completed a valid frame meant for this node, unicast to it or a broadcast, and
not its own; on every other path it writes 0. -/
def Obligations.PollResultIsDeliveredLength : Prop :=
  ∀ s t : State, exec .poll s = .next t →
    let delivers := s.busy = true ∧ s.inTime ∧ s.cursor.val = 4 + s.rxLen ∧
      s.rxq.head? = some (chk (s.rxbuf.toList.take (5 + s.rxLen))) ∧
      s.rxSrc ≠ s.ownAddr ∧ (s.isBcast = true ∨ s.isBypass = false)
    (delivers → t.result = BitVec.ofNat 8 s.rxLen) ∧ (¬delivers → t.result = 0)

/-- R147 (D8): one POLL consumes the oldest byte of RXQ, if there is one, and never a second. -/
def Obligations.PollConsumesOneByte : Prop :=
  ∀ s t : State, exec .poll s = .next t → t.rxq = s.rxq.tail

/-- R133 to R144 (D17, D18), R37, R31: what no POLL changes: OWN_ADDR, INITED, DEBUG, TXBUF, ARG0, ARG1, TXDATA, the clock, the
transport's rate and the parameters of R8; of OUTDATA at most the first RESULT bytes; of RXBUF at most the byte at CURSOR + 1 of a frame in progress and in time,
else the byte at index 0, and none when RXQ is empty. -/
def Obligations.PollFrame : Prop :=
  ∀ s t : State, exec .poll s = .next t →
    t.ownAddr = s.ownAddr ∧ t.inited = s.inited ∧ t.debug = s.debug ∧ t.txbuf = s.txbuf ∧ t.arg0 = s.arg0 ∧
    t.arg1 = s.arg1 ∧ t.txdata = s.txdata ∧ t.clock = s.clock ∧ t.baud = s.baud ∧ t.inputs = s.inputs ∧
    t.reads = s.reads ∧ t.draws = s.draws ∧ t.params = s.params ∧
    (∀ (i : Nat) (h : i < 20), t.result.toNat ≤ i → t.outdata[i] = s.outdata[i]) ∧
    (∀ (i : Nat) (h : i < 26), i ≠ (if s.busy = true ∧ s.inTime then s.cursor.val + 1 else 0) →
      t.rxbuf[i] = s.rxbuf[i]) ∧
    (s.rxq = [] → t.rxbuf = s.rxbuf)

/-- R130 with R71 (marked derived): an initialised POLL always answers a next state, provided a frame in progress has not passed
index 24, which R41 says of every state between commands. -/
def Obligations.PollCompletes : Prop :=
  ∀ s : State, s.inited = true → (s.busy = true → s.cursor.val ≤ 24) → ∃ t, exec .poll s = .next t

/-- R8, R28 and R135 (D6), for either value of RESTART_TIMER_PER_BYTE: a POLL that stores an in-frame byte re-records TS when the
run's parameter is true and leaves it when it is false (notes/assumptions/12.md). -/
def Obligations.RestartTimerDecidesTimestamp : Prop :=
  ∀ (s : State) (b : Byte) (rest : List Byte), s.inited = true → s.busy = true → s.inTime → s.cursor.val ≤ 24 →
    s.rxq = b :: rest →
    ∃ t, exec .poll s = .next t ∧
      t.ts = if s.params.restartTimerPerByte = true then s.clock else s.ts

/-! ## The whole machine -/

/-- 10_state.md R41 and R30 (marked derived), with R23: every step keeps `State.Inv`, from every state that has it. -/
def Obligations.StepKeepsInv : Prop :=
  ∀ s t : State, s.Inv → step s = .next t → t.Inv

/-- 20_memory.md R71 (marked derived), 93_implementation_defined.md I2: from a state with `State.Inv` no step faults: no buffer
index leaves its buffer and no byte is read that is not there. -/
def Obligations.StepNeverFaults : Prop :=
  ∀ (s : State) (f : Fault), s.Inv → step s ≠ .fault f

/-- R8, R43: TIME_WIDTH, RESTART_TIMER_PER_BYTE and RXQ's capacity are fixed for a run: no step changes them (that State holds
them is the model's choice, notes/assumptions/10.md, 11.md, 12.md). -/
def Obligations.ParametersAreFixed : Prop :=
  ∀ s t : State, step s = .next t → t.params = s.params

/-- R63 (D25), R214 and R147 (D8): while RXQ is not full nothing but a POLL takes a byte from it, and a POLL takes the oldest; so every
step leaves the queued bytes in place, with at most one more at the end, or is a POLL that leaves all but the first. And no
step takes RXQ past its capacity. -/
def Obligations.OnlyPollTakesFromQueue : Prop :=
  (∀ s t : State, step s = .next t → ¬s.QueueFull →
    (∃ more : List Byte, more.length ≤ 1 ∧ t.rxq = s.rxq ++ more) ∨
    ((∃ rest, s.inputs = .access (.write 0x00 1 0x03) :: rest) ∧ t.rxq = s.rxq.tail)) ∧
  (∀ (s t : State) (depth : Nat), step s = .next t → s.params.rxqDepth = some depth → s.rxq.length ≤ depth →
    t.rxq.length ≤ depth)

/-- R23 and R24 (D16): once INIT has succeeded no step changes OWN_ADDR, INITED or DEBUG. -/
def Obligations.IdentityIsImmutable : Prop :=
  ∀ s t : State, s.inited = true → step s = .next t →
    t.ownAddr = s.ownAddr ∧ t.inited = true ∧ t.debug = s.debug

/-- R26 (its last clause is marked derived): only a POLL sets BUSY, and only when it consumes a START1 byte in idle. -/
def Obligations.OnlyStart1SetsBusy : Prop :=
  ∀ s t : State, step s = .next t → s.busy = false → t.busy = true →
    (∃ rest, s.inputs = .access (.write 0x00 1 0x03) :: rest) ∧ (∃ q, s.rxq = 0xEF :: q ∧ t.rxq = q) ∧
    t.cursor.val = 0 ∧ t.ts = s.clock

/-- R42, R62, R214, R216: the outputs are streams: a step only appends to TXOUT, to LOGOUT and to what the host has read. -/
def Obligations.OutputsOnlyGrow : Prop :=
  ∀ s t : State, step s = .next t → s.txout <+: t.txout ∧ s.logout <+: t.logout ∧ s.reads <+: t.reads

/-- R25: only INIT writes DEBUG, among the commands and among all steps; with DEBUG = 0 no command emits a line; and DEBUG changes
no other output: run on two states that differ in DEBUG only, a command gives outcomes that differ in DEBUG, LOGOUT and
DUMP's draw counter at most. -/
def Obligations.DebugChangesOnlyTheLog : Prop :=
  (∀ (i : Instr) (s t : State), i ≠ .init → exec i s = .next t → t.debug = s.debug) ∧
  (∀ s t : State, step s = .next t → t.debug ≠ s.debug → ∃ rest, s.inputs = .access (.write 0x00 1 0x01) :: rest) ∧
  (∀ (i : Instr) (s t : State), s.debug = false → exec i s = .next t → t.logout = s.logout) ∧
  (∀ (i : Instr) (s : State) (d : Bool),
    mapNext State.forgetLog (exec i { s with debug := d }) = mapNext State.forgetLog (exec i s))

/-- R61 (D1), R33, R37: no command writes ARG0, ARG1 or TXDATA, or touches the clock, the inputs to come or what was read. -/
def Obligations.CommandsKeepOperands : Prop :=
  ∀ (i : Instr) (s t : State), exec i s = .next t →
    t.arg0 = s.arg0 ∧ t.arg1 = s.arg1 ∧ t.txdata = s.txdata ∧ t.clock = s.clock ∧ t.inputs = s.inputs ∧
    t.reads = s.reads

/-- R118, R243 and R215 (R118 and R243 are marked derived): every command but POLL ignores RXQ, CLOCK and TS: it does the same
whatever they hold and leaves them alone. So a stalled frame stays until a POLL. -/
def Obligations.OnlyPollLooksAtQueueAndClock : Prop :=
  ∀ (i : Instr) (s : State) (q : List Byte) (clk ts : Nat), i ≠ .poll →
    exec i { s with rxq := q, clock := clk, ts := ts } =
      mapNext (fun t => { t with rxq := q, clock := clk, ts := ts }) (exec i s)

/-! ## Frames end to end -/

/-- 95_test_vectors.md L1-3a, from 40_send.md R113, R114 and 41_receive.md R134 to R145 (with the decisions D8,
D17 and D18; notes/assumptions/22.md): what a successful SEND of one node appends
to TXOUT, put at the head of the queue of an idle node with that destination address, is consumed by 6 + L POLLs, delivered
exactly, with RESULT = L, and not forwarded; the rest of the queue stays. The sender is not the receiver, and the two are not
the master's own broadcast (that frame is a broadcast, R99). -/
def Obligations.SendThenReceiveRoundTrip : Prop :=
  ∀ (a a' r : State) (sent rest : List Byte), a.inited = true → exec .send a = .next a' → a'.result = 0x00 →
    a'.txout = a.txout ++ sent → r.inited = true → r.busy = false → r.ownAddr = a.arg0 → a.ownAddr ≠ a.arg0 →
    r.rxq = sent ++ rest →
    ∃ t, r.polls (6 + a.arg1.toNat) = .next t ∧ t.result = a.arg1 ∧ t.rxq = rest ∧ t.busy = false ∧
      t.txout = r.txout ∧
      ∀ (i : Nat) (h : i < 20), t.outdata[i] = if i < a.arg1.toNat then a.txdata[i] else r.outdata[i]

/-- L1-3g, from R137, R141 and R143, with R144 (D18) for OUTDATA and R147 (D8) for one byte per POLL: a well-formed frame addressed to neither this node nor sent by it, and no broadcast, is
forwarded byte-identical, once, after 6 + L POLLs from idle, and yields RESULT 0 and no payload. -/
def Obligations.BypassFrameIsRelayedVerbatim : Prop :=
  ∀ (r : State) (dest src len : Byte) (payload rest : List Byte), r.inited = true → r.busy = false →
    payload.length = len.toNat → len.toNat ≤ 20 → dest ≠ r.ownAddr → src ≠ r.ownAddr →
    ¬(dest = 0x01 ∧ src = 0x01) → r.rxq = frame dest src len payload ++ rest →
    ∃ t, r.polls (6 + len.toNat) = .next t ∧ t.txout = r.txout ++ frame dest src len payload ∧ t.result = 0 ∧
      t.outdata = r.outdata ∧ t.rxq = rest ∧ t.busy = false

/-- L1-3h, from R137, R141, R143, R144 (D18), R153 and R147 (D8): at a node that is not the master, a well-formed broadcast frame is forwarded
byte-identical, once, and its payload delivered with RESULT = L. -/
def Obligations.BroadcastIsRelayedAndDelivered : Prop :=
  ∀ (r : State) (len : Byte) (payload rest : List Byte), r.inited = true → r.busy = false →
    payload.length = len.toNat → len.toNat ≤ 20 → r.ownAddr ≠ 0x01 →
    r.rxq = frame 0x01 0x01 len payload ++ rest →
    ∃ t, r.polls (6 + len.toNat) = .next t ∧ t.txout = r.txout ++ frame 0x01 0x01 len payload ∧ t.result = len ∧
      t.rxq = rest ∧ t.busy = false ∧
      ∀ (i : Nat) (h : i < 20), t.outdata[i] = if hi : i < payload.length then payload[i] else r.outdata[i]

/-- R152 (marked derived) and R141, with R144 (D18) for OUTDATA and R147 (D8) for one byte per POLL: a frame a node sent that comes back to it is neither relayed nor delivered, whatever its
destination, so no frame circulates forever. -/
def Obligations.OwnFrameIsNotRelayed : Prop :=
  ∀ (r : State) (dest len : Byte) (payload rest : List Byte), r.inited = true → r.busy = false →
    payload.length = len.toNat → len.toNat ≤ 20 → r.rxq = frame dest r.ownAddr len payload ++ rest →
    ∃ t, r.polls (6 + len.toNat) = .next t ∧ t.txout = r.txout ∧ t.result = 0 ∧ t.outdata = r.outdata ∧
      t.rxq = rest ∧ t.busy = false

/-- L1-3b as 90_conflicts.md C4 limits it, from R96 and R139, with what the abort leaves alone
from R197 (D17) and R144 (D18; notes/assumptions/22.md) and one byte per POLL from R147 (D8): a well-formed frame with any one byte changed, other than the two
start markers and the length byte, ends in "CRC Fail" after its 6 + L POLLs: nothing is delivered or forwarded, RESULT is 0
and the link is idle. -/
def Obligations.CorruptedFrameIsDiscarded : Prop :=
  ∀ (r : State) (dest src len : Byte) (payload rest : List Byte) (k : Nat) (b : Byte), r.inited = true →
    r.busy = false → payload.length = len.toNat → len.toNat ≤ 20 →
    (hk : k < (frame dest src len payload).length) → k ≠ 0 → k ≠ 1 → k ≠ 4 → b ≠ (frame dest src len payload)[k] →
    r.rxq = (frame dest src len payload).set k b ++ rest →
    ∃ t, r.polls (6 + len.toNat) = .next t ∧ t.txout = r.txout ∧ t.result = 0 ∧ t.outdata = r.outdata ∧
      t.rxq = rest ∧ t.busy = false ∧ t.logout = r.logAfter [.crcFail]
end

