-- ==== Sys2Proof/Laws/State.lean ====
section
/-! SUPPORT. One lemma per field and per shared update of the state, true by unfolding it once, so that no later proof unfolds a record
update. -/

namespace Sys2Proof.Machine

variable (s : State)

/-! ### State.log -/

@[simp] theorem log_ownAddr (t : Tag) : (s.log t).ownAddr = s.ownAddr := rfl
@[simp] theorem log_inited (t : Tag) : (s.log t).inited = s.inited := rfl
@[simp] theorem log_debug (t : Tag) : (s.log t).debug = s.debug := rfl
@[simp] theorem log_busy (t : Tag) : (s.log t).busy = s.busy := rfl
@[simp] theorem log_cursor (t : Tag) : (s.log t).cursor = s.cursor := rfl
@[simp] theorem log_ts (t : Tag) : (s.log t).ts = s.ts := rfl
@[simp] theorem log_isBcast (t : Tag) : (s.log t).isBcast = s.isBcast := rfl
@[simp] theorem log_isBypass (t : Tag) : (s.log t).isBypass = s.isBypass := rfl
@[simp] theorem log_txbuf (t : Tag) : (s.log t).txbuf = s.txbuf := rfl
@[simp] theorem log_rxbuf (t : Tag) : (s.log t).rxbuf = s.rxbuf := rfl
@[simp] theorem log_arg0 (t : Tag) : (s.log t).arg0 = s.arg0 := rfl
@[simp] theorem log_arg1 (t : Tag) : (s.log t).arg1 = s.arg1 := rfl
@[simp] theorem log_result (t : Tag) : (s.log t).result = s.result := rfl
@[simp] theorem log_txdata (t : Tag) : (s.log t).txdata = s.txdata := rfl
@[simp] theorem log_outdata (t : Tag) : (s.log t).outdata = s.outdata := rfl
@[simp] theorem log_rxq (t : Tag) : (s.log t).rxq = s.rxq := rfl
@[simp] theorem log_txout (t : Tag) : (s.log t).txout = s.txout := rfl
@[simp] theorem log_clock (t : Tag) : (s.log t).clock = s.clock := rfl
@[simp] theorem log_params (t : Tag) : (s.log t).params = s.params := rfl
@[simp] theorem log_logout (t : Tag) : (s.log t).logout = if s.debug then s.logout ++ [.tag t] else s.logout := rfl
@[simp] theorem log_baud (t : Tag) : (s.log t).baud = s.baud := rfl
@[simp] theorem log_inputs (t : Tag) : (s.log t).inputs = s.inputs := rfl
@[simp] theorem log_reads (t : Tag) : (s.log t).reads = s.reads := rfl
@[simp] theorem log_draws (t : Tag) : (s.log t).draws = s.draws := rfl

/-! ### State.setResult -/

@[simp] theorem setResult_ownAddr (v : Byte) : (s.setResult v).ownAddr = s.ownAddr := rfl
@[simp] theorem setResult_inited (v : Byte) : (s.setResult v).inited = s.inited := rfl
@[simp] theorem setResult_debug (v : Byte) : (s.setResult v).debug = s.debug := rfl
@[simp] theorem setResult_busy (v : Byte) : (s.setResult v).busy = s.busy := rfl
@[simp] theorem setResult_cursor (v : Byte) : (s.setResult v).cursor = s.cursor := rfl
@[simp] theorem setResult_ts (v : Byte) : (s.setResult v).ts = s.ts := rfl
@[simp] theorem setResult_isBcast (v : Byte) : (s.setResult v).isBcast = s.isBcast := rfl
@[simp] theorem setResult_isBypass (v : Byte) : (s.setResult v).isBypass = s.isBypass := rfl
@[simp] theorem setResult_txbuf (v : Byte) : (s.setResult v).txbuf = s.txbuf := rfl
@[simp] theorem setResult_rxbuf (v : Byte) : (s.setResult v).rxbuf = s.rxbuf := rfl
@[simp] theorem setResult_arg0 (v : Byte) : (s.setResult v).arg0 = s.arg0 := rfl
@[simp] theorem setResult_arg1 (v : Byte) : (s.setResult v).arg1 = s.arg1 := rfl
@[simp] theorem setResult_result (v : Byte) : (s.setResult v).result = v := rfl
@[simp] theorem setResult_txdata (v : Byte) : (s.setResult v).txdata = s.txdata := rfl
@[simp] theorem setResult_outdata (v : Byte) : (s.setResult v).outdata = s.outdata := rfl
@[simp] theorem setResult_rxq (v : Byte) : (s.setResult v).rxq = s.rxq := rfl
@[simp] theorem setResult_txout (v : Byte) : (s.setResult v).txout = s.txout := rfl
@[simp] theorem setResult_clock (v : Byte) : (s.setResult v).clock = s.clock := rfl
@[simp] theorem setResult_params (v : Byte) : (s.setResult v).params = s.params := rfl
@[simp] theorem setResult_logout (v : Byte) : (s.setResult v).logout = s.logout := rfl
@[simp] theorem setResult_baud (v : Byte) : (s.setResult v).baud = s.baud := rfl
@[simp] theorem setResult_inputs (v : Byte) : (s.setResult v).inputs = s.inputs := rfl
@[simp] theorem setResult_reads (v : Byte) : (s.setResult v).reads = s.reads := rfl
@[simp] theorem setResult_draws (v : Byte) : (s.setResult v).draws = s.draws := rfl

/-! ### State.release -/

@[simp] theorem release_ownAddr : s.release.ownAddr = s.ownAddr := rfl
@[simp] theorem release_inited : s.release.inited = s.inited := rfl
@[simp] theorem release_debug : s.release.debug = s.debug := rfl
@[simp] theorem release_busy : s.release.busy = false := rfl
@[simp] theorem release_cursor : s.release.cursor = 0 := rfl
@[simp] theorem release_ts : s.release.ts = s.ts := rfl
@[simp] theorem release_isBcast : s.release.isBcast = s.isBcast := rfl
@[simp] theorem release_isBypass : s.release.isBypass = s.isBypass := rfl
@[simp] theorem release_txbuf : s.release.txbuf = s.txbuf := rfl
@[simp] theorem release_rxbuf : s.release.rxbuf = s.rxbuf := rfl
@[simp] theorem release_arg0 : s.release.arg0 = s.arg0 := rfl
@[simp] theorem release_arg1 : s.release.arg1 = s.arg1 := rfl
@[simp] theorem release_result : s.release.result = s.result := rfl
@[simp] theorem release_txdata : s.release.txdata = s.txdata := rfl
@[simp] theorem release_outdata : s.release.outdata = s.outdata := rfl
@[simp] theorem release_rxq : s.release.rxq = s.rxq := rfl
@[simp] theorem release_txout : s.release.txout = s.txout := rfl
@[simp] theorem release_clock : s.release.clock = s.clock := rfl
@[simp] theorem release_params : s.release.params = s.params := rfl
@[simp] theorem release_logout : s.release.logout = s.logout := rfl
@[simp] theorem release_baud : s.release.baud = s.baud := rfl
@[simp] theorem release_inputs : s.release.inputs = s.inputs := rfl
@[simp] theorem release_reads : s.release.reads = s.reads := rfl
@[simp] theorem release_draws : s.release.draws = s.draws := rfl

/-! ### State.abort -/

@[simp] theorem abort_ownAddr (r : AbortReason) : (s.abort r).ownAddr = s.ownAddr := rfl
@[simp] theorem abort_inited (r : AbortReason) : (s.abort r).inited = s.inited := rfl
@[simp] theorem abort_debug (r : AbortReason) : (s.abort r).debug = s.debug := rfl
@[simp] theorem abort_busy (r : AbortReason) : (s.abort r).busy = false := rfl
@[simp] theorem abort_cursor (r : AbortReason) : (s.abort r).cursor = 0 := rfl
@[simp] theorem abort_ts (r : AbortReason) : (s.abort r).ts = s.ts := rfl
@[simp] theorem abort_isBcast (r : AbortReason) : (s.abort r).isBcast = s.isBcast := rfl
@[simp] theorem abort_isBypass (r : AbortReason) : (s.abort r).isBypass = s.isBypass := rfl
@[simp] theorem abort_txbuf (r : AbortReason) : (s.abort r).txbuf = s.txbuf := rfl
@[simp] theorem abort_rxbuf (r : AbortReason) : (s.abort r).rxbuf = s.rxbuf := rfl
@[simp] theorem abort_arg0 (r : AbortReason) : (s.abort r).arg0 = s.arg0 := rfl
@[simp] theorem abort_arg1 (r : AbortReason) : (s.abort r).arg1 = s.arg1 := rfl
@[simp] theorem abort_result (r : AbortReason) : (s.abort r).result = s.result := rfl
@[simp] theorem abort_txdata (r : AbortReason) : (s.abort r).txdata = s.txdata := rfl
@[simp] theorem abort_outdata (r : AbortReason) : (s.abort r).outdata = s.outdata := rfl
@[simp] theorem abort_rxq (r : AbortReason) : (s.abort r).rxq = s.rxq := rfl
@[simp] theorem abort_txout (r : AbortReason) : (s.abort r).txout = s.txout := rfl
@[simp] theorem abort_clock (r : AbortReason) : (s.abort r).clock = s.clock := rfl
@[simp] theorem abort_params (r : AbortReason) : (s.abort r).params = s.params := rfl
@[simp] theorem abort_logout (r : AbortReason) : (s.abort r).logout = if s.debug then s.logout ++ [.tag r.tag] else s.logout := rfl
@[simp] theorem abort_baud (r : AbortReason) : (s.abort r).baud = s.baud := rfl
@[simp] theorem abort_inputs (r : AbortReason) : (s.abort r).inputs = s.inputs := rfl
@[simp] theorem abort_reads (r : AbortReason) : (s.abort r).reads = s.reads := rfl
@[simp] theorem abort_draws (r : AbortReason) : (s.abort r).draws = s.draws := rfl

/-! ### State.txWriteAll -/

@[simp] theorem txWriteAll_ownAddr (bs : List Byte) : (s.txWriteAll bs).ownAddr = s.ownAddr := rfl
@[simp] theorem txWriteAll_inited (bs : List Byte) : (s.txWriteAll bs).inited = s.inited := rfl
@[simp] theorem txWriteAll_debug (bs : List Byte) : (s.txWriteAll bs).debug = s.debug := rfl
@[simp] theorem txWriteAll_busy (bs : List Byte) : (s.txWriteAll bs).busy = s.busy := rfl
@[simp] theorem txWriteAll_cursor (bs : List Byte) : (s.txWriteAll bs).cursor = s.cursor := rfl
@[simp] theorem txWriteAll_ts (bs : List Byte) : (s.txWriteAll bs).ts = s.ts := rfl
@[simp] theorem txWriteAll_isBcast (bs : List Byte) : (s.txWriteAll bs).isBcast = s.isBcast := rfl
@[simp] theorem txWriteAll_isBypass (bs : List Byte) : (s.txWriteAll bs).isBypass = s.isBypass := rfl
@[simp] theorem txWriteAll_txbuf (bs : List Byte) : (s.txWriteAll bs).txbuf = s.txbuf := rfl
@[simp] theorem txWriteAll_rxbuf (bs : List Byte) : (s.txWriteAll bs).rxbuf = s.rxbuf := rfl
@[simp] theorem txWriteAll_arg0 (bs : List Byte) : (s.txWriteAll bs).arg0 = s.arg0 := rfl
@[simp] theorem txWriteAll_arg1 (bs : List Byte) : (s.txWriteAll bs).arg1 = s.arg1 := rfl
@[simp] theorem txWriteAll_result (bs : List Byte) : (s.txWriteAll bs).result = s.result := rfl
@[simp] theorem txWriteAll_txdata (bs : List Byte) : (s.txWriteAll bs).txdata = s.txdata := rfl
@[simp] theorem txWriteAll_outdata (bs : List Byte) : (s.txWriteAll bs).outdata = s.outdata := rfl
@[simp] theorem txWriteAll_rxq (bs : List Byte) : (s.txWriteAll bs).rxq = s.rxq := rfl
@[simp] theorem txWriteAll_txout (bs : List Byte) : (s.txWriteAll bs).txout = s.txout ++ bs := rfl
@[simp] theorem txWriteAll_clock (bs : List Byte) : (s.txWriteAll bs).clock = s.clock := rfl
@[simp] theorem txWriteAll_params (bs : List Byte) : (s.txWriteAll bs).params = s.params := rfl
@[simp] theorem txWriteAll_logout (bs : List Byte) : (s.txWriteAll bs).logout = s.logout := rfl
@[simp] theorem txWriteAll_baud (bs : List Byte) : (s.txWriteAll bs).baud = s.baud := rfl
@[simp] theorem txWriteAll_inputs (bs : List Byte) : (s.txWriteAll bs).inputs = s.inputs := rfl
@[simp] theorem txWriteAll_reads (bs : List Byte) : (s.txWriteAll bs).reads = s.reads := rfl
@[simp] theorem txWriteAll_draws (bs : List Byte) : (s.txWriteAll bs).draws = s.draws := rfl

/-! ### State.forward -/

@[simp] theorem forward_ownAddr (n : Nat) : (s.forward n).ownAddr = s.ownAddr := rfl
@[simp] theorem forward_inited (n : Nat) : (s.forward n).inited = s.inited := rfl
@[simp] theorem forward_debug (n : Nat) : (s.forward n).debug = s.debug := rfl
@[simp] theorem forward_busy (n : Nat) : (s.forward n).busy = s.busy := rfl
@[simp] theorem forward_cursor (n : Nat) : (s.forward n).cursor = s.cursor := rfl
@[simp] theorem forward_ts (n : Nat) : (s.forward n).ts = s.ts := rfl
@[simp] theorem forward_isBcast (n : Nat) : (s.forward n).isBcast = s.isBcast := rfl
@[simp] theorem forward_isBypass (n : Nat) : (s.forward n).isBypass = s.isBypass := rfl
@[simp] theorem forward_txbuf (n : Nat) : (s.forward n).txbuf = s.txbuf := rfl
@[simp] theorem forward_rxbuf (n : Nat) : (s.forward n).rxbuf = s.rxbuf := rfl
@[simp] theorem forward_arg0 (n : Nat) : (s.forward n).arg0 = s.arg0 := rfl
@[simp] theorem forward_arg1 (n : Nat) : (s.forward n).arg1 = s.arg1 := rfl
@[simp] theorem forward_result (n : Nat) : (s.forward n).result = s.result := rfl
@[simp] theorem forward_txdata (n : Nat) : (s.forward n).txdata = s.txdata := rfl
@[simp] theorem forward_outdata (n : Nat) : (s.forward n).outdata = s.outdata := rfl
@[simp] theorem forward_rxq (n : Nat) : (s.forward n).rxq = s.rxq := rfl
@[simp] theorem forward_txout (n : Nat) : (s.forward n).txout = s.txout ++ bytesFrom s.rxbuf 0 (6 + n) := rfl
@[simp] theorem forward_clock (n : Nat) : (s.forward n).clock = s.clock := rfl
@[simp] theorem forward_params (n : Nat) : (s.forward n).params = s.params := rfl
@[simp] theorem forward_logout (n : Nat) : (s.forward n).logout = s.logout := rfl
@[simp] theorem forward_baud (n : Nat) : (s.forward n).baud = s.baud := rfl
@[simp] theorem forward_inputs (n : Nat) : (s.forward n).inputs = s.inputs := rfl
@[simp] theorem forward_reads (n : Nat) : (s.forward n).reads = s.reads := rfl
@[simp] theorem forward_draws (n : Nat) : (s.forward n).draws = s.draws := rfl

/-! ### State.deliver -/

@[simp] theorem deliver_ownAddr (n : Nat) : (s.deliver n).ownAddr = s.ownAddr := rfl
@[simp] theorem deliver_inited (n : Nat) : (s.deliver n).inited = s.inited := rfl
@[simp] theorem deliver_debug (n : Nat) : (s.deliver n).debug = s.debug := rfl
@[simp] theorem deliver_busy (n : Nat) : (s.deliver n).busy = s.busy := rfl
@[simp] theorem deliver_cursor (n : Nat) : (s.deliver n).cursor = s.cursor := rfl
@[simp] theorem deliver_ts (n : Nat) : (s.deliver n).ts = s.ts := rfl
@[simp] theorem deliver_isBcast (n : Nat) : (s.deliver n).isBcast = s.isBcast := rfl
@[simp] theorem deliver_isBypass (n : Nat) : (s.deliver n).isBypass = s.isBypass := rfl
@[simp] theorem deliver_txbuf (n : Nat) : (s.deliver n).txbuf = s.txbuf := rfl
@[simp] theorem deliver_rxbuf (n : Nat) : (s.deliver n).rxbuf = s.rxbuf := rfl
@[simp] theorem deliver_arg0 (n : Nat) : (s.deliver n).arg0 = s.arg0 := rfl
@[simp] theorem deliver_arg1 (n : Nat) : (s.deliver n).arg1 = s.arg1 := rfl
@[simp] theorem deliver_result (n : Nat) : (s.deliver n).result = s.result := rfl
@[simp] theorem deliver_txdata (n : Nat) : (s.deliver n).txdata = s.txdata := rfl
@[simp] theorem deliver_outdata (n : Nat) : (s.deliver n).outdata = storeFrom s.outdata 0 (bytesFrom s.rxbuf Config.headerLen n) := rfl
@[simp] theorem deliver_rxq (n : Nat) : (s.deliver n).rxq = s.rxq := rfl
@[simp] theorem deliver_txout (n : Nat) : (s.deliver n).txout = s.txout := rfl
@[simp] theorem deliver_clock (n : Nat) : (s.deliver n).clock = s.clock := rfl
@[simp] theorem deliver_params (n : Nat) : (s.deliver n).params = s.params := rfl
@[simp] theorem deliver_logout (n : Nat) : (s.deliver n).logout = s.logout := rfl
@[simp] theorem deliver_baud (n : Nat) : (s.deliver n).baud = s.baud := rfl
@[simp] theorem deliver_inputs (n : Nat) : (s.deliver n).inputs = s.inputs := rfl
@[simp] theorem deliver_reads (n : Nat) : (s.deliver n).reads = s.reads := rfl
@[simp] theorem deliver_draws (n : Nat) : (s.deliver n).draws = s.draws := rfl

/-! ### State.transmit -/

@[simp] theorem transmit_ownAddr : s.transmit.ownAddr = s.ownAddr := rfl
@[simp] theorem transmit_inited : s.transmit.inited = s.inited := rfl
@[simp] theorem transmit_debug : s.transmit.debug = s.debug := rfl
@[simp] theorem transmit_busy : s.transmit.busy = false := rfl
@[simp] theorem transmit_cursor : s.transmit.cursor = s.cursor := rfl
@[simp] theorem transmit_ts : s.transmit.ts = s.ts := rfl
@[simp] theorem transmit_isBcast : s.transmit.isBcast = s.isBcast := rfl
@[simp] theorem transmit_isBypass : s.transmit.isBypass = s.isBypass := rfl
@[simp] theorem transmit_txbuf : s.transmit.txbuf = storeFrom s.txbuf 0 s.sendFrame := by
  simp only [State.transmit, State.txWriteAll]
@[simp] theorem transmit_rxbuf : s.transmit.rxbuf = s.rxbuf := rfl
@[simp] theorem transmit_arg0 : s.transmit.arg0 = s.arg0 := rfl
@[simp] theorem transmit_arg1 : s.transmit.arg1 = s.arg1 := rfl
@[simp] theorem transmit_result : s.transmit.result = s.result := rfl
@[simp] theorem transmit_txdata : s.transmit.txdata = s.txdata := rfl
@[simp] theorem transmit_outdata : s.transmit.outdata = s.outdata := rfl
@[simp] theorem transmit_rxq : s.transmit.rxq = s.rxq := rfl
@[simp] theorem transmit_txout : s.transmit.txout = s.txout ++ bytesFrom (storeFrom s.txbuf 0 s.sendFrame) 0 (6 + s.sendLen) := by
  simp only [State.transmit, State.txWriteAll]
@[simp] theorem transmit_clock : s.transmit.clock = s.clock := rfl
@[simp] theorem transmit_params : s.transmit.params = s.params := rfl
@[simp] theorem transmit_logout : s.transmit.logout = s.logout := rfl
@[simp] theorem transmit_baud : s.transmit.baud = s.baud := rfl
@[simp] theorem transmit_inputs : s.transmit.inputs = s.inputs := rfl
@[simp] theorem transmit_reads : s.transmit.reads = s.reads := rfl
@[simp] theorem transmit_draws : s.transmit.draws = s.draws := rfl

/-! ### State.txInit -/

@[simp] theorem txInit_ownAddr : s.txInit.ownAddr = s.ownAddr := rfl
@[simp] theorem txInit_inited : s.txInit.inited = s.inited := rfl
@[simp] theorem txInit_debug : s.txInit.debug = s.debug := rfl
@[simp] theorem txInit_busy : s.txInit.busy = s.busy := rfl
@[simp] theorem txInit_cursor : s.txInit.cursor = s.cursor := rfl
@[simp] theorem txInit_ts : s.txInit.ts = s.ts := rfl
@[simp] theorem txInit_isBcast : s.txInit.isBcast = s.isBcast := rfl
@[simp] theorem txInit_isBypass : s.txInit.isBypass = s.isBypass := rfl
@[simp] theorem txInit_txbuf : s.txInit.txbuf = s.txbuf := rfl
@[simp] theorem txInit_rxbuf : s.txInit.rxbuf = s.rxbuf := rfl
@[simp] theorem txInit_arg0 : s.txInit.arg0 = s.arg0 := rfl
@[simp] theorem txInit_arg1 : s.txInit.arg1 = s.arg1 := rfl
@[simp] theorem txInit_result : s.txInit.result = s.result := rfl
@[simp] theorem txInit_txdata : s.txInit.txdata = s.txdata := rfl
@[simp] theorem txInit_outdata : s.txInit.outdata = s.outdata := rfl
@[simp] theorem txInit_rxq : s.txInit.rxq = s.rxq := rfl
@[simp] theorem txInit_txout : s.txInit.txout = s.txout := rfl
@[simp] theorem txInit_clock : s.txInit.clock = s.clock := rfl
@[simp] theorem txInit_params : s.txInit.params = s.params := rfl
@[simp] theorem txInit_logout : s.txInit.logout = s.logout := rfl
@[simp] theorem txInit_baud : s.txInit.baud = some Config.baud := rfl
@[simp] theorem txInit_inputs : s.txInit.inputs = s.inputs := rfl
@[simp] theorem txInit_reads : s.txInit.reads = s.reads := rfl
@[simp] theorem txInit_draws : s.txInit.draws = s.draws := rfl

end Sys2Proof.Machine
end

