-- ==== Sys2Proof/Laws/Ops.lean ====
section
/-! SUPPORT. What the shared operations do, said once: buffers, the checksum, the collaborators, the gate and the step. -/

namespace Sys2Proof.Machine

/-! ## Buffers -/

/-- One cell of a buffer after bytes are stored from `start` on. -/
theorem storeFrom_getElem {n : Nat} (bs : List Byte) (buf : Vector Byte n) (start i : Nat) (h : i < n) :
    (storeFrom buf start bs)[i] =
      if hi : start ≤ i ∧ i - start < bs.length then bs[i - start]'hi.2 else buf[i] := by
  induction bs generalizing buf start with
  | nil => simp [storeFrom]
  | cons b bs ih =>
    rw [storeFrom, ih]
    by_cases h1 : start = i
    · subst h1
      simp
    · by_cases h2 : start + 1 ≤ i
      · obtain ⟨k, rfl⟩ : ∃ k, i = start + 1 + k := ⟨i - (start + 1), by omega⟩
        have e : start + 1 + k - start = k + 1 := by omega
        have e' : start + 1 + k - (start + 1) = k := by omega
        have h3 : start ≤ start + 1 + k := by omega
        simp [e, e', h1, h3]
      · have h3 : ¬(start ≤ i) := by omega
        simp [h1, h2, h3]

/-- Storing nothing changes nothing. -/
@[simp] theorem storeFrom_nil {n : Nat} (buf : Vector Byte n) (start : Nat) : storeFrom buf start [] = buf := rfl

/-- Bytes read from index 0. -/
theorem bytesFrom_zero {n : Nat} (buf : Vector Byte n) (len : Nat) : bytesFrom buf 0 len = buf.toList.take len := by
  simp [bytesFrom]

/-- How many bytes are read, when they stand in the buffer. -/
theorem bytesFrom_length {n : Nat} (buf : Vector Byte n) (start len : Nat) (h : start + len ≤ n) :
    (bytesFrom buf start len).length = len := by
  simp [bytesFrom]; omega

/-- One of the bytes read. -/
theorem bytesFrom_getElem {n : Nat} (buf : Vector Byte n) (start len i : Nat) (h : start + len ≤ n)
    (hi : i < (bytesFrom buf start len).length) :
    (bytesFrom buf start len)[i] = buf[start + i]'(by rw [bytesFrom_length buf start len h] at hi; omega) := by
  simp [bytesFrom]

/-- A write above the bytes read is not seen. -/
theorem bytesFrom_set_above {n : Nat} (buf : Vector Byte n) (start len k : Nat) (b : Byte) (h : k < n)
    (hk : start + len ≤ k) : bytesFrom (buf.set k b h) start len = bytesFrom buf start len := by
  apply List.ext_getElem
  · simp [bytesFrom]
  · intro i h1 h2
    rw [bytesFrom_getElem _ _ _ _ (by omega), bytesFrom_getElem _ _ _ _ (by omega)]
    rw [bytesFrom_length _ _ _ (by omega)] at h2
    rw [Vector.getElem_set_ne]
    omega

/-- Reading up to and including a byte just written. -/
theorem bytesFrom_set_last {n : Nat} (buf : Vector Byte n) (len : Nat) (b : Byte) (h : len < n) :
    bytesFrom (buf.set len b h) 0 (len + 1) = bytesFrom buf 0 len ++ [b] := by
  apply List.ext_getElem
  · rw [List.length_append, bytesFrom_length _ _ _ (by omega), bytesFrom_length _ _ _ (by omega)]; rfl
  · intro i h1 h2
    rw [bytesFrom_getElem _ _ _ _ (by omega)]
    rw [bytesFrom_length _ _ _ (by omega)] at h1
    by_cases hi : i = len
    · subst hi
      rw [List.getElem_append_right (by rw [bytesFrom_length _ _ _ (by omega)])]
      simp
    · rw [List.getElem_append_left (by rw [bytesFrom_length _ _ _ (by omega)]; omega),
        bytesFrom_getElem _ _ _ _ (by omega), Vector.getElem_set_ne]
      omega

/-- What is stored from index 0 is read back from index 0. -/
theorem bytesFrom_storeFrom {n : Nat} (buf : Vector Byte n) (bs : List Byte) (h : bs.length ≤ n) :
    bytesFrom (storeFrom buf 0 bs) 0 bs.length = bs := by
  apply List.ext_getElem
  · rw [bytesFrom_length _ _ _ (by omega)]
  · intro i h1 h2
    rw [bytesFrom_getElem _ _ _ _ (by omega), storeFrom_getElem]
    simp [h2]

/-! ## The checksum and the frame (30_encoding.md R90, R94) -/

@[simp] theorem chk_nil : chk [] = 0xFF := rfl

theorem chk_append_singleton (bs : List Byte) (b : Byte) : chk (bs ++ [b]) = chk bs ^^^ b := by
  simp [chk]

/-- A fold of XOR from any start is the fold from the right over the same bytes. -/
theorem foldl_xor_eq_foldr (bs : List Byte) (c : Byte) :
    bs.foldl (· ^^^ ·) c = bs.foldr (· ^^^ ·) c := by
  induction bs generalizing c with
  | nil => rfl
  | cons b bs ih =>
    have swap : ∀ (xs : List Byte) (x y : Byte), xs.foldr (· ^^^ ·) (x ^^^ y) = x ^^^ xs.foldr (· ^^^ ·) y := by
      intro xs x y
      induction xs with
      | nil => rfl
      | cons z zs ih2 => simp only [List.foldr_cons, ih2]; rw [← BitVec.xor_assoc, BitVec.xor_comm z x, BitVec.xor_assoc]
    rw [List.foldl_cons, ih, List.foldr_cons, BitVec.xor_comm c b, swap]

@[simp] theorem frameBody_length (dest src len : Byte) (payload : List Byte) :
    (frameBody dest src len payload).length = 5 + payload.length := by
  simp [frameBody]; omega

@[simp] theorem frame_length (dest src len : Byte) (payload : List Byte) :
    (frame dest src len payload).length = 6 + payload.length := by
  simp [frame]; omega

/-! ## The collaborators (60_exceptions.md R214 to R216) -/

/-- Writing bytes one at a time is writing them all. -/
theorem txWriteAll_eq_foldl (s : State) (bs : List Byte) : s.txWriteAll bs = bs.foldl State.txWrite s := by
  induction bs generalizing s with
  | nil => simp [State.txWriteAll]
  | cons b bs ih => rw [List.foldl_cons, ← ih]; simp [State.txWriteAll, State.txWrite]

/-- When RXQ is full (R8, D25). -/
theorem rxFull_iff (s : State) : s.rxFull = true ↔ s.QueueFull := by
  unfold State.rxFull State.QueueFull
  cases s.params.rxqDepth with
  | none => simp
  | some depth => exact decide_eq_true_iff.trans ⟨fun h => ⟨depth, rfl, h⟩, fun ⟨_, rfl, h⟩ => h⟩

/-- When it is not. -/
theorem rxFull_eq_false_iff (s : State) : s.rxFull = false ↔ ¬s.QueueFull := by
  rw [← Bool.not_eq_true, rxFull_iff]

theorem arrive_notFull (s : State) (b : Byte) (h : ¬s.QueueFull) : s.arrive b = { s with rxq := s.rxq ++ [b] } := by
  simp [State.arrive, (rxFull_eq_false_iff s).2 h]

theorem arrive_full (s : State) (b : Byte) (h : s.QueueFull) : s.arrive b = s := by
  simp [State.arrive, (rxFull_iff s).2 h]

/-- Dropping at no position changes nothing. -/
@[simp] theorem dropAt_nil (q : List Byte) : dropAt [] q = q := by
  simp [dropAt]

/-- What is dropped leaves the rest in its order. -/
theorem dropAt_sublist (lost : List Nat) (q : List Byte) : (dropAt lost q).Sublist q := by
  simpa [dropAt] using (List.filter_sublist (p := fun p : Byte × Nat => !lost.contains p.2) (l := q.zipIdx)).map Prod.fst

theorem lose_full (s : State) (lost : List Nat) (h : s.QueueFull) : s.lose lost = { s with rxq := dropAt lost s.rxq } := by
  simp [State.lose, (rxFull_iff s).2 h]

theorem lose_notFull (s : State) (lost : List Nat) (h : ¬s.QueueFull) : s.lose lost = s := by
  simp [State.lose, (rxFull_eq_false_iff s).2 h]

/-- An arrival never takes RXQ past its capacity. -/
theorem arrive_length_le (s : State) (b : Byte) (depth : Nat) (hd : s.params.rxqDepth = some depth)
    (h : s.rxq.length ≤ depth) : (s.arrive b).rxq.length ≤ depth := by
  by_cases hf : s.QueueFull
  · rwa [arrive_full s b hf]
  · have : s.rxq.length < depth := Nat.lt_of_not_le fun hn => hf ⟨depth, hd, hn⟩
    rw [arrive_notFull s b hf]
    simp
    omega

/-- `RxRead` with a byte available. -/
theorem rxRead_cons (s : State) (b : Byte) (rest : List Byte) (h : s.rxq = b :: rest) :
    s.rxRead = .ok (b, { s with rxq := rest }) := by
  simp [State.rxRead, h]

/-- `RxRead` faults only with no byte available. -/
theorem rxRead_error (s : State) (f : Fault) (h : s.rxRead = .error f) : s.rxq = [] := by
  unfold State.rxRead at h
  split at h
  · assumption
  · cases h

/-! ## The gate (42_control.md R173) -/

@[simp] theorem whenInitialised_true (s : State) (k : Result) (h : s.inited = true) : whenInitialised s k = k := by
  simp [whenInitialised, h]

@[simp] theorem whenInitialised_false (s : State) (k : Result) (h : s.inited = false) :
    whenInitialised s k = .refused .notInitialised := by
  simp [whenInitialised, h]

/-- Everything the gate lets through. -/
theorem whenInitialised_next {s t : State} {k : Result} (h : whenInitialised s k = .next t) :
    s.inited = true ∧ k = .next t := by
  unfold whenInitialised at h
  split at h
  · exact ⟨by assumption, h⟩
  · cases h

/-! ## Operands (30_encoding.md R81, R82) -/

theorem addrLegal_iff (a : Byte) : addrLegal a = true ↔ 1 ≤ a.toNat ∧ a.toNat ≤ 0x7F := by
  simp [addrLegal, Config.addrMin, Config.addrMax, BitVec.le_def]

theorem addrLegal_false_iff (a : Byte) : addrLegal a = false ↔ a.toNat < 1 ∨ 0x7F < a.toNat := by
  rw [← Bool.not_eq_true, addrLegal_iff]; omega

theorem initFlagsOk_iff (s : State) : s.initFlagsOk = true ↔ s.arg1.toNat < 2 := by
  have key : ∀ a : Byte, (a.extractLsb 7 1 == 0) = decide (a.toNat < 2) := by decide
  rw [State.initFlagsOk, key, decide_eq_true_eq]

theorem dumpDirection_eq_none (s : State) : s.dumpDirection = none ↔ 2 ≤ s.arg1.toNat := by
  have key : ∀ a : Byte, (a ≠ 0 ∧ a ≠ 1) ↔ 2 ≤ a.toNat := by decide
  unfold State.dumpDirection
  rw [← key]
  split
  · simp_all
  · split <;> simp_all

/-- BUSY_RESULT is one of 0x01..0xFC (40_send.md R112). -/
theorem busyResult_toNat : 1 ≤ Config.busyResult.toNat ∧ Config.busyResult.toNat ≤ 0xFC := by
  have h := Config.busyDraw.isLt
  simp only [Config.busyResult, BitVec.toNat_ofNat]
  omega

/-! ## The timeout (41_receive.md R131) -/

theorem timedOut_iff (s : State) : s.timedOut = true ↔ s.busy = true ∧ 100 < s.elapsedTime := by
  rw [State.timedOut, Bool.and_eq_true, decide_eq_true_iff]
  rfl

/-- In time, the guard does nothing. -/
theorem guard_inTime (s : State) (h : s.inTime) : s.guard = s := by
  have : s.timedOut = false := by rw [← Bool.not_eq_true, timedOut_iff]; exact h
  simp [State.guard, this]

/-- Out of time, the guard aborts. -/
theorem guard_timedOut (s : State) (hb : s.busy = true) (h : 100 < s.elapsedTime) :
    s.guard = s.abort .timeout := by
  simp [State.guard, (timedOut_iff s).2 ⟨hb, h⟩]

/-! ## Outcomes and the step -/

@[simp] theorem mapNext_next (f : State → State) (s : State) : mapNext f (.next s) = .next (f s) := rfl
@[simp] theorem mapNext_fault (f : State → State) (e : Fault) : mapNext f (.fault e) = .fault e := rfl
@[simp] theorem mapNext_refused (f : State → State) (r : Refusal) : mapNext f (.refused r) = .refused r := rfl

/-- A step with no input left. -/
theorem step_nil (s : State) (h : s.inputs = []) : step s = .next s := by
  simp [step, stepInput, h]

/-- A step handles the next input, on the state with that input taken away. -/
theorem step_cons (s : State) (i : Input) (rest : List Input) (h : s.inputs = i :: rest) :
    step s = handle i { s with inputs := rest } := by
  simp [step, stepInput, h]

/-- Everything a step can do: nothing, an event of the environment, a read, a write of an operand register, or a command. -/
theorem step_cases {s t : State} (h : step s = .next t) :
    (s.inputs = [] ∧ t = s) ∨
    (∃ b rest, s.inputs = .arrive b :: rest ∧ t = { s with inputs := rest, rxq := if s.rxFull then s.rxq else s.rxq ++ [b] }) ∨
    (∃ lost rest, s.inputs = .lose lost :: rest ∧ t = { s with inputs := rest, rxq := if s.rxFull then dropAt lost s.rxq else s.rxq }) ∨
    (∃ c rest, s.inputs = .clock c :: rest ∧ t = { s with inputs := rest, clock := c % 2 ^ s.params.timeWidth }) ∨
    (∃ off r rest, s.inputs = .access (.read off 1) :: rest ∧ Reg.atOffset off = some r ∧
      t = { s with inputs := rest, reads := s.reads ++ [s.readReg r] }) ∨
    (∃ off v rest, s.inputs = .access (.write off 1 v) :: rest ∧ Reg.atOffset off = some .arg0 ∧
      t = { s with inputs := rest, arg0 := v }) ∨
    (∃ off v rest, s.inputs = .access (.write off 1 v) :: rest ∧ Reg.atOffset off = some .arg1 ∧
      t = { s with inputs := rest, arg1 := v }) ∨
    (∃ off v i rest, s.inputs = .access (.write off 1 v) :: rest ∧ Reg.atOffset off = some (.txdata i) ∧
      t = { s with inputs := rest, txdata := s.txdata.set i v }) ∨
    (∃ off op i rest, s.inputs = .access (.write off 1 op) :: rest ∧ Reg.atOffset off = some .cmd ∧
      decode op = .ok i ∧ exec i { s with inputs := rest } = .next t) := by
  cases hin : s.inputs with
  | nil => rw [step_nil s hin] at h; cases h; exact .inl ⟨rfl, rfl⟩
  | cons i rest =>
    rw [step_cons s i rest hin] at h
    right
    cases i with
    | arrive b => cases h; exact .inl ⟨b, rest, rfl, rfl⟩
    | lose lost => cases h; exact .inr (.inl ⟨lost, rest, rfl, rfl⟩)
    | clock c => cases h; exact .inr (.inr (.inl ⟨c, rest, rfl, rfl⟩))
    | access a =>
      right; right; right
      cases a with
      | read off w =>
        simp only [handle, hostAccess] at h
        split at h
        · rename_i hw
          subst hw
          unfold memRead at h
          split at h
          · cases h
          · rename_i r hr
            cases h
            exact .inl ⟨off, r, rest, rfl, hr, by cases r <;> rfl⟩
        · cases h
      | write off w v =>
        right
        simp only [handle, hostAccess] at h
        split at h
        · rename_i hw
          subst hw
          unfold memWrite at h
          split at h
          · cases h
          · rename_i r hr
            cases r with
            | arg0 => cases h; exact .inl ⟨off, v, rest, rfl, hr, rfl⟩
            | arg1 => cases h; exact .inr (.inl ⟨off, v, rest, rfl, hr, rfl⟩)
            | txdata i => cases h; exact .inr (.inr (.inl ⟨off, v, i, rest, rfl, hr, rfl⟩))
            | cmd =>
              simp only [writeReg, execute] at h
              split at h
              · cases h
              · rename_i i hi
                exact .inr (.inr (.inr ⟨off, v, i, rest, rfl, hr, hi, h⟩))
            | result => cases h
            | status => cases h
            | ownaddr => cases h
            | outdata i => cases h
        · cases h

end Sys2Proof.Machine
end

