-- ==== Sys2Proof/Laws/Commands.lean ====
section
/-! SUPPORT. INIT, SEND, ISBUSY and DUMP, said once: their outcome as an equation, and everything they can answer. -/

namespace Sys2Proof.Machine

/-- SEND past the gate: the four checks in their order, then the transmission (40_send.md R110, R111). -/
theorem exec_send (s : State) (hi : s.inited = true) : exec .send s =
    if Config.maxPayload < s.sendLen then .next (((s.log .startSending).log .lengthErr).setResult 0xFF)
    else if addrLegal s.sendDest = false then .next (((s.log .startSending).log .addrErr).setResult 0xFE)
    else if s.sendDest = s.ownAddr ∧ s.sendDest ≠ Config.broadcastAddr then
      .next (((s.log .startSending).log .sameAddrErr).setResult 0xFD)
    else if s.busy then .next ((s.log .startSending).setResult Config.busyResult)
    else .next ((s.log .startSending).transmit.setResult 0x00) := by
  rw [exec, execSend, whenInitialised_true s _ hi]
  rfl

/-- Everything SEND can answer. -/
theorem exec_send_next {s t : State} (h : exec .send s = .next t) :
    s.inited = true ∧
    (t = ((s.log .startSending).log .lengthErr).setResult 0xFF ∨
     t = ((s.log .startSending).log .addrErr).setResult 0xFE ∨
     t = ((s.log .startSending).log .sameAddrErr).setResult 0xFD ∨
     (s.busy = true ∧ t = (s.log .startSending).setResult Config.busyResult) ∨
     (s.busy = false ∧ s.sendLen ≤ 20 ∧ t = (s.log .startSending).transmit.setResult 0x00)) := by
  have hi := (whenInitialised_next (show whenInitialised s _ = _ from h)).1
  refine ⟨hi, ?_⟩
  rw [exec_send s hi] at h
  split at h
  · cases h; exact .inl rfl
  · rename_i hl
    split at h
    · cases h; exact .inr (.inl rfl)
    · split at h
      · cases h; exact .inr (.inr (.inl rfl))
      · split at h
        · rename_i hb
          cases h; exact .inr (.inr (.inr (.inl ⟨hb, rfl⟩)))
        · rename_i hb
          cases h; exact .inr (.inr (.inr (.inr ⟨by simpa using hb, by simpa using hl, rfl⟩)))

/-- Everything INIT can answer (42_control.md R170). -/
theorem exec_init_next {s t : State} (h : exec .init s = .next t) :
    s.inited = false ∧ s.initFlagsOk = true ∧
    ((addrLegal s.arg0 = false ∧ t = s.setResult 0x00) ∨
     (addrLegal s.arg0 = true ∧ t = { s with
        ownAddr := s.arg0, debug := s.initDebug, inited := true, baud := some Config.baud, result := 0x01 })) := by
  simp only [exec, execInit] at h
  split at h
  · cases h
  · rename_i h1
    split at h
    · cases h
    · rename_i h2
      split at h
      · rename_i h3
        cases h; exact ⟨by simpa using h1, by simpa using h2, .inl ⟨h3, rfl⟩⟩
      · rename_i h3
        cases h; exact ⟨by simpa using h1, by simpa using h2, .inr ⟨Bool.not_eq_false _ ▸ h3, rfl⟩⟩

/-- Everything ISBUSY can answer (R175). -/
theorem exec_isBusy_next {s t : State} (h : exec .isBusy s = .next t) :
    s.inited = true ∧ t = s.setResult (flagByte s.busy) := by
  obtain ⟨hi, hk⟩ := whenInitialised_next (show whenInitialised s _ = _ from h)
  cases hk
  exact ⟨hi, rfl⟩

/-- Everything DUMP can answer (R176). -/
theorem exec_dump_next {s t : State} (h : exec .dump s = .next t) :
    s.inited = true ∧ ∃ dir, s.dumpDirection = some dir ∧ t = s.logDump (s.bufferOf dir) := by
  obtain ⟨hi, hk⟩ := whenInitialised_next (show whenInitialised s _ = _ from h)
  refine ⟨hi, ?_⟩
  split at hk
  · cases hk
  · rename_i dir hd
    cases hk
    exact ⟨dir, hd, rfl⟩

/-! ## DUMP's lines change LOGOUT and the draw counter only -/

variable (s : State) (buf : Vector Byte Config.maxFrame)

@[simp] theorem logDump_ownAddr : (s.logDump buf).ownAddr = s.ownAddr := by unfold State.logDump; split <;> rfl
@[simp] theorem logDump_inited : (s.logDump buf).inited = s.inited := by unfold State.logDump; split <;> rfl
@[simp] theorem logDump_debug : (s.logDump buf).debug = s.debug := by unfold State.logDump; split <;> rfl
@[simp] theorem logDump_busy : (s.logDump buf).busy = s.busy := by unfold State.logDump; split <;> rfl
@[simp] theorem logDump_cursor : (s.logDump buf).cursor = s.cursor := by unfold State.logDump; split <;> rfl
@[simp] theorem logDump_ts : (s.logDump buf).ts = s.ts := by unfold State.logDump; split <;> rfl
@[simp] theorem logDump_isBcast : (s.logDump buf).isBcast = s.isBcast := by unfold State.logDump; split <;> rfl
@[simp] theorem logDump_isBypass : (s.logDump buf).isBypass = s.isBypass := by unfold State.logDump; split <;> rfl
@[simp] theorem logDump_txbuf : (s.logDump buf).txbuf = s.txbuf := by unfold State.logDump; split <;> rfl
@[simp] theorem logDump_rxbuf : (s.logDump buf).rxbuf = s.rxbuf := by unfold State.logDump; split <;> rfl
@[simp] theorem logDump_arg0 : (s.logDump buf).arg0 = s.arg0 := by unfold State.logDump; split <;> rfl
@[simp] theorem logDump_arg1 : (s.logDump buf).arg1 = s.arg1 := by unfold State.logDump; split <;> rfl
@[simp] theorem logDump_result : (s.logDump buf).result = s.result := by unfold State.logDump; split <;> rfl
@[simp] theorem logDump_txdata : (s.logDump buf).txdata = s.txdata := by unfold State.logDump; split <;> rfl
@[simp] theorem logDump_outdata : (s.logDump buf).outdata = s.outdata := by unfold State.logDump; split <;> rfl
@[simp] theorem logDump_rxq : (s.logDump buf).rxq = s.rxq := by unfold State.logDump; split <;> rfl
@[simp] theorem logDump_txout : (s.logDump buf).txout = s.txout := by unfold State.logDump; split <;> rfl
@[simp] theorem logDump_clock : (s.logDump buf).clock = s.clock := by unfold State.logDump; split <;> rfl
@[simp] theorem logDump_params : (s.logDump buf).params = s.params := by unfold State.logDump; split <;> rfl
@[simp] theorem logDump_baud : (s.logDump buf).baud = s.baud := by unfold State.logDump; split <;> rfl
@[simp] theorem logDump_inputs : (s.logDump buf).inputs = s.inputs := by unfold State.logDump; split <;> rfl
@[simp] theorem logDump_reads : (s.logDump buf).reads = s.reads := by unfold State.logDump; split <;> rfl

end Sys2Proof.Machine
end

