-- ==== Sys2Proof/Laws/PerInstr.lean ====
section
/-! SUPPORT. What holds of every command as syntax, one lemma per constructor. -/

namespace Sys2Proof.Laws.DecodeEncode

/-- A command is well-formed, one byte long, and its byte decodes to it, with whatever follows untouched (30_encoding.md R81,
R83, R86). -/
def Statement (i : Instr) : Prop :=
  i.wf = true ∧ (encode i).length = 1 ∧ ∀ rest : List Byte, decodeBytes (encode i ++ rest) = .ok (i, rest)

theorem init : Statement .init := ⟨rfl, rfl, fun _ => rfl⟩
theorem send : Statement .send := ⟨rfl, rfl, fun _ => rfl⟩
theorem poll : Statement .poll := ⟨rfl, rfl, fun _ => rfl⟩
theorem isBusy : Statement .isBusy := ⟨rfl, rfl, fun _ => rfl⟩
theorem dump : Statement .dump := ⟨rfl, rfl, fun _ => rfl⟩

end Sys2Proof.Laws.DecodeEncode
end

