-- ==== Sys2Proof/Laws/Receive.lean ====
section
/-! SUPPORT. POLL, said once: the guard, the byte step, and what each cursor-indexed check answers. -/

namespace Sys2Proof.Machine

/-! ## The guard leaves the queue, the clock and the buffers alone -/

@[simp] theorem guard_rxq (s : State) : s.guard.rxq = s.rxq := by unfold State.guard; split <;> rfl
@[simp] theorem guard_clock (s : State) : s.guard.clock = s.clock := by unfold State.guard; split <;> rfl
@[simp] theorem guard_params (s : State) : s.guard.params = s.params := by unfold State.guard; split <;> rfl
@[simp] theorem guard_rxbuf (s : State) : s.guard.rxbuf = s.rxbuf := by unfold State.guard; split <;> rfl

@[simp] theorem guard_ownAddr (s : State) : s.guard.ownAddr = s.ownAddr := by unfold State.guard; split <;> rfl
@[simp] theorem guard_inited (s : State) : s.guard.inited = s.inited := by unfold State.guard; split <;> rfl
@[simp] theorem guard_debug (s : State) : s.guard.debug = s.debug := by unfold State.guard; split <;> rfl
@[simp] theorem guard_ts (s : State) : s.guard.ts = s.ts := by unfold State.guard; split <;> rfl
@[simp] theorem guard_isBcast (s : State) : s.guard.isBcast = s.isBcast := by unfold State.guard; split <;> rfl
@[simp] theorem guard_isBypass (s : State) : s.guard.isBypass = s.isBypass := by unfold State.guard; split <;> rfl
@[simp] theorem guard_txbuf (s : State) : s.guard.txbuf = s.txbuf := by unfold State.guard; split <;> rfl
@[simp] theorem guard_arg0 (s : State) : s.guard.arg0 = s.arg0 := by unfold State.guard; split <;> rfl
@[simp] theorem guard_arg1 (s : State) : s.guard.arg1 = s.arg1 := by unfold State.guard; split <;> rfl
@[simp] theorem guard_result (s : State) : s.guard.result = s.result := by unfold State.guard; split <;> rfl
@[simp] theorem guard_txdata (s : State) : s.guard.txdata = s.txdata := by unfold State.guard; split <;> rfl
@[simp] theorem guard_outdata (s : State) : s.guard.outdata = s.outdata := by unfold State.guard; split <;> rfl
@[simp] theorem guard_txout (s : State) : s.guard.txout = s.txout := by unfold State.guard; split <;> rfl
@[simp] theorem guard_baud (s : State) : s.guard.baud = s.baud := by unfold State.guard; split <;> rfl
@[simp] theorem guard_inputs (s : State) : s.guard.inputs = s.inputs := by unfold State.guard; split <;> rfl
@[simp] theorem guard_reads (s : State) : s.guard.reads = s.reads := by unfold State.guard; split <;> rfl
@[simp] theorem guard_draws (s : State) : s.guard.draws = s.draws := by unfold State.guard; split <;> rfl

/-- Everything the guard can do. -/
theorem guard_cases (s : State) :
    (s.inTime ∧ s.guard = s) ∨
    (s.busy = true ∧ 100 < s.elapsedTime ∧ s.guard = s.abort .timeout) := by
  by_cases h : s.busy = true ∧ 100 < s.elapsedTime
  · exact .inr ⟨h.1, h.2, guard_timedOut s h.1 h.2⟩
  · exact .inl ⟨h, guard_inTime s h⟩

/-! ## POLL down to its byte step -/

/-- POLL with an empty queue: the guard, then RESULT 0 (41_receive.md R133). -/
theorem poll_noByte (restart : Bool) (s : State) (h : s.rxq = []) :
    poll restart s = .next (s.guard.setResult 0) := by
  simp [poll, State.rxAvail, h]

/-- POLL with a byte: the guard, then the byte step on the queue without it (R132, R147). -/
theorem poll_byte (restart : Bool) (s : State) (b : Byte) (rest : List Byte) (h : s.rxq = b :: rest) :
    poll restart s = byteStep restart s.clock b { s.guard with rxq := rest } := by
  simp [poll, State.rxAvail, h, rxRead_cons s.guard b rest (by simpa using h), State.now]

/-- POLL through the gate. -/
theorem exec_poll (s : State) (h : s.inited = true) : exec .poll s = poll s.params.restartTimerPerByte s := by
  simp [exec, execPoll, h]

/-- Everything POLL can do when it answers a next state. -/
theorem exec_poll_next {s t : State} (h : exec .poll s = .next t) :
    s.inited = true ∧
    ((s.rxq = [] ∧ t = s.guard.setResult 0) ∨
     ∃ b rest, s.rxq = b :: rest ∧
       byteStep s.params.restartTimerPerByte s.clock b { s.guard with rxq := rest } = .next t) := by
  obtain ⟨hi, hp⟩ := whenInitialised_next (show whenInitialised s _ = _ from h)
  refine ⟨hi, ?_⟩
  cases hq : s.rxq with
  | nil => rw [poll_noByte _ _ hq] at hp; cases hp; exact .inl ⟨rfl, rfl⟩
  | cons b rest => rw [poll_byte _ _ b rest hq] at hp; exact .inr ⟨b, rest, rfl, hp⟩

/-- The byte step of an idle machine (R134). -/
theorem byteStep_idle (restart : Bool) (now : Nat) (b : Byte) (s : State) (h : s.busy = false) :
    byteStep restart now b s = .next (s.idleByte now b) := by
  simp [byteStep, h]

/-- The state after an in-frame byte is stored, before the checks (R135). -/
abbrev stored (restart : Bool) (now : Nat) (b : Byte) (s : State)
    (h : s.cursor.val + 1 < Config.maxFrame) : State :=
  { s with
    cursor := ⟨s.cursor.val + 1, h⟩
    rxbuf := s.rxbuf.set (s.cursor.val + 1) b h
    ts := if restart then now else s.ts }

/-- The byte step of a frame in progress (R135). -/
theorem byteStep_inFrame (restart : Bool) (now : Nat) (b : Byte) (s : State) (hb : s.busy = true)
    (h : s.cursor.val + 1 < Config.maxFrame) :
    byteStep restart now b s = .next ((stored restart now b s h).checkByte b) := by
  rw [byteStep, if_pos hb, inFrameByte, dif_pos h]

/-- When the byte step answers a next state. -/
theorem byteStep_next {restart : Bool} {now : Nat} {b : Byte} {s t : State}
    (h : byteStep restart now b s = .next t) :
    (s.busy = false ∧ t = s.idleByte now b) ∨
    (s.busy = true ∧ ∃ hc : s.cursor.val + 1 < Config.maxFrame, t = (stored restart now b s hc).checkByte b) := by
  unfold byteStep inFrameByte at h
  split at h
  · rename_i hb
    split at h
    · rename_i hc; cases h; exact .inr ⟨hb, hc, rfl⟩
    · cases h
  · rename_i hb
    cases h
    exact .inl ⟨by simpa using hb, rfl⟩

/-- POLL of a busy node that is in time, with a byte: the byte is stored and checked. -/
theorem exec_poll_inFrame (s : State) (b : Byte) (rest : List Byte) (hi : s.inited = true) (hb : s.busy = true)
    (ht : s.inTime) (hq : s.rxq = b :: rest) (hc : s.cursor.val + 1 < Config.maxFrame) :
    exec .poll s = .next
      ((stored s.params.restartTimerPerByte s.clock b { s with rxq := rest } hc).checkByte b) := by
  rw [exec_poll s hi, poll_byte _ s b rest hq, guard_inTime s ht]
  exact byteStep_inFrame _ _ b { s with rxq := rest } hb hc

/-- POLL of an idle node, with a byte. -/
theorem exec_poll_idle (s : State) (b : Byte) (rest : List Byte) (hi : s.inited = true) (hb : s.busy = false)
    (hq : s.rxq = b :: rest) :
    exec .poll s = .next (({ s with rxq := rest } : State).idleByte s.clock b) := by
  have ht : s.inTime := by simp [hb]
  rw [exec_poll s hi, poll_byte _ s b rest hq, guard_inTime s ht]
  exact byteStep_idle _ _ b { s with rxq := rest } hb

/-! ## The checks, one per cursor (R136 to R139) -/

theorem checkByte_marker2_bad (s : State) (b : Byte) (hc : s.cursor.val = 1) (hb : b ≠ 0xFA) :
    s.checkByte b = (s.abort .noStart2).setResult 0 := by
  unfold State.checkByte
  exact if_pos ⟨hc, hb⟩

theorem checkByte_marker2_good (s : State) (b : Byte) (hc : s.cursor.val = 1) (hb : b = 0xFA) :
    s.checkByte b = s.setResult 0 := by
  simp [State.checkByte, hc, Config.start2, hb]

theorem checkByte_dest (s : State) (b : Byte) (hc : s.cursor.val = 2) : s.checkByte b = s.setResult 0 := by
  simp [State.checkByte, hc]

theorem checkByte_src (s : State) (b : Byte) (hc : s.cursor.val = 3) :
    s.checkByte b = s.classify.setResult 0 := by
  simp [State.checkByte, hc]

theorem checkByte_len_bad (s : State) (b : Byte) (hc : s.cursor.val = 4) (hb : 20 < b.toNat) :
    s.checkByte b = (s.abort .tooLong).setResult 0 := by
  simp [State.checkByte, hc, hb]

theorem checkByte_len_good (s : State) (b : Byte) (hc : s.cursor.val = 4) (hb : b.toNat ≤ 20) :
    s.checkByte b = s.setResult 0 := by
  have : ¬20 < b.toNat := by omega
  simp [State.checkByte, hc, this]

theorem checkByte_payload (s : State) (b : Byte) (hc : 5 ≤ s.cursor.val) (hl : s.cursor.val ≠ 5 + s.rxLen) :
    s.checkByte b = s.setResult 0 := by
  have h1 : s.cursor.val ≠ 1 := by omega
  have h3 : s.cursor.val ≠ 3 := by omega
  have h4 : s.cursor.val ≠ 4 := by omega
  simp only [State.rxLen] at hl
  simp [State.checkByte, h1, h3, h4, hl]

theorem checkByte_last (s : State) (b : Byte) (hl : s.cursor.val = 5 + s.rxLen) :
    s.checkByte b = s.completeFrame := by
  have h1 : s.cursor.val ≠ 1 := by omega
  have h3 : s.cursor.val ≠ 3 := by omega
  have h4 : s.cursor.val ≠ 4 := by omega
  have h5 : 5 ≤ s.cursor.val := by omega
  simp only [State.rxLen] at hl
  have : s.cursor.val = 5 + s.rxbuf[4].toNat := hl
  unfold State.checkByte
  simp only [h1, h3, h4, false_and, if_false]
  rw [if_pos ⟨h5, this⟩]

/-- Everything the checks can answer. -/
theorem checkByte_cases (s : State) (b : Byte) :
    (s.cursor.val = 1 ∧ b ≠ 0xFA ∧ s.checkByte b = (s.abort .noStart2).setResult 0) ∨
    (s.cursor.val = 3 ∧ s.checkByte b = s.classify.setResult 0) ∨
    (s.cursor.val = 4 ∧ 20 < b.toNat ∧ s.checkByte b = (s.abort .tooLong).setResult 0) ∨
    (s.cursor.val = 5 + s.rxLen ∧ s.checkByte b = s.completeFrame) ∨
    (s.cursor.val ≠ 3 ∧ (s.cursor.val = 1 → b = 0xFA) ∧ (s.cursor.val = 4 → b.toNat ≤ 20) ∧
      s.cursor.val ≠ 5 + s.rxLen ∧ s.checkByte b = s.setResult 0) := by
  by_cases hl : s.cursor.val = 5 + s.rxLen
  · exact .inr (.inr (.inr (.inl ⟨hl, checkByte_last s b hl⟩)))
  · have : s.cursor.val = 0 ∨ s.cursor.val = 1 ∨ s.cursor.val = 2 ∨ s.cursor.val = 3 ∨ s.cursor.val = 4 ∨
        5 ≤ s.cursor.val := by omega
    rcases this with h | h | h | h | h | h
    · refine .inr (.inr (.inr (.inr ⟨by omega, by omega, by omega, hl, ?_⟩)))
      simp [State.checkByte, h]
    · by_cases hb : b = 0xFA
      · exact .inr (.inr (.inr (.inr ⟨by omega, fun _ => hb, by omega, hl, checkByte_marker2_good s b h hb⟩)))
      · exact .inl ⟨h, hb, checkByte_marker2_bad s b h hb⟩
    · exact .inr (.inr (.inr (.inr ⟨by omega, by omega, by omega, hl, checkByte_dest s b h⟩)))
    · exact .inr (.inl ⟨h, checkByte_src s b h⟩)
    · by_cases hb : 20 < b.toNat
      · exact .inr (.inr (.inl ⟨h, hb, checkByte_len_bad s b h hb⟩))
      · exact .inr (.inr (.inr (.inr ⟨by omega, by omega, by omega, hl, checkByte_len_good s b h (by omega)⟩)))
    · exact .inr (.inr (.inr (.inr ⟨by omega, by omega, by omega, hl, checkByte_payload s b h hl⟩)))

/-! ## Completion and routing (R139 to R145) -/

/-- The checksum byte: abort, or route after "Valid Package recv.". -/
theorem completeFrame_cases (s : State) :
    (s.rxbuf[s.cursor] ≠ chk (s.rxbuf.toList.take (5 + s.rxLen)) ∧
      s.completeFrame = (s.abort .crcFail).setResult 0) ∨
    (s.rxbuf[s.cursor] = chk (s.rxbuf.toList.take (5 + s.rxLen)) ∧
      s.completeFrame = (s.log .validPackage).route s.rxbuf[4]) := by
  unfold State.completeFrame
  rw [State.rxLen, ← bytesFrom_zero]
  by_cases h : s.rxbuf[s.cursor] = chk (bytesFrom s.rxbuf 0 (5 + s.rxbuf[4].toNat))
  · exact .inr ⟨h, if_neg (fun e => e h.symm)⟩
  · exact .inl ⟨h, if_pos (fun e => h e.symm)⟩

/-- The five rows of R141. -/
theorem route_cases (s : State) (len : Byte) :
    (s.isBcast = true ∧ s.rxSrc = s.ownAddr ∧ s.route len = ((s.log .brCastEnd).release).setResult 0) ∨
    (s.isBcast = true ∧ s.rxSrc ≠ s.ownAddr ∧
      s.route len = ((((s.log .brCastForward).forward len.toNat).deliver len.toNat).release).setResult len) ∨
    (s.isBcast = false ∧ s.rxSrc = s.ownAddr ∧ s.route len = ((s.log .badCycle).release).setResult 0) ∨
    (s.isBcast = false ∧ s.rxSrc ≠ s.ownAddr ∧ s.isBypass = true ∧
      s.route len = (((s.log .dataBypass).forward len.toNat).release).setResult 0) ∨
    (s.isBcast = false ∧ s.rxSrc ≠ s.ownAddr ∧ s.isBypass = false ∧
      s.route len = (((s.log .dataRecv).deliver len.toNat).release).setResult len) := by
  unfold State.route State.rxSrc
  cases hb : s.isBcast <;> cases hp : s.isBypass <;> by_cases h : s.rxbuf[3] = s.ownAddr <;> simp [h]

/-! ## What the checks, the routing and an idle byte leave alone -/

variable (s : State) (b len : Byte) (now : Nat)

@[simp] theorem classify_ownAddr : s.classify.ownAddr = s.ownAddr := by unfold State.classify; split <;> [rfl; (split <;> rfl)]
@[simp] theorem classify_inited : s.classify.inited = s.inited := by unfold State.classify; split <;> [rfl; (split <;> rfl)]
@[simp] theorem classify_debug : s.classify.debug = s.debug := by unfold State.classify; split <;> [rfl; (split <;> rfl)]
@[simp] theorem classify_ts : s.classify.ts = s.ts := by unfold State.classify; split <;> [rfl; (split <;> rfl)]
@[simp] theorem classify_txbuf : s.classify.txbuf = s.txbuf := by unfold State.classify; split <;> [rfl; (split <;> rfl)]
@[simp] theorem classify_rxbuf : s.classify.rxbuf = s.rxbuf := by unfold State.classify; split <;> [rfl; (split <;> rfl)]
@[simp] theorem classify_arg0 : s.classify.arg0 = s.arg0 := by unfold State.classify; split <;> [rfl; (split <;> rfl)]
@[simp] theorem classify_arg1 : s.classify.arg1 = s.arg1 := by unfold State.classify; split <;> [rfl; (split <;> rfl)]
@[simp] theorem classify_txdata : s.classify.txdata = s.txdata := by unfold State.classify; split <;> [rfl; (split <;> rfl)]
@[simp] theorem classify_rxq : s.classify.rxq = s.rxq := by unfold State.classify; split <;> [rfl; (split <;> rfl)]
@[simp] theorem classify_clock : s.classify.clock = s.clock := by unfold State.classify; split <;> [rfl; (split <;> rfl)]
@[simp] theorem classify_params : s.classify.params = s.params := by unfold State.classify; split <;> [rfl; (split <;> rfl)]
@[simp] theorem classify_baud : s.classify.baud = s.baud := by unfold State.classify; split <;> [rfl; (split <;> rfl)]
@[simp] theorem classify_inputs : s.classify.inputs = s.inputs := by unfold State.classify; split <;> [rfl; (split <;> rfl)]
@[simp] theorem classify_reads : s.classify.reads = s.reads := by unfold State.classify; split <;> [rfl; (split <;> rfl)]
@[simp] theorem classify_draws : s.classify.draws = s.draws := by unfold State.classify; split <;> [rfl; (split <;> rfl)]
@[simp] theorem classify_outdata : s.classify.outdata = s.outdata := by unfold State.classify; split <;> [rfl; (split <;> rfl)]
@[simp] theorem classify_busy : s.classify.busy = s.busy := by unfold State.classify; split <;> [rfl; (split <;> rfl)]
@[simp] theorem classify_cursor : s.classify.cursor = s.cursor := by unfold State.classify; split <;> [rfl; (split <;> rfl)]
@[simp] theorem classify_txout : s.classify.txout = s.txout := by unfold State.classify; split <;> [rfl; (split <;> rfl)]
@[simp] theorem classify_logout : s.classify.logout = s.logout := by unfold State.classify; split <;> [rfl; (split <;> rfl)]

@[simp] theorem route_ownAddr : (s.route len).ownAddr = s.ownAddr := by
  rcases route_cases s len with ⟨_, _, e⟩ | ⟨_, _, e⟩ | ⟨_, _, e⟩ | ⟨_, _, _, e⟩ | ⟨_, _, _, e⟩ <;> simp only [e, setResult_ownAddr, release_ownAddr, deliver_ownAddr, forward_ownAddr, log_ownAddr]
@[simp] theorem route_inited : (s.route len).inited = s.inited := by
  rcases route_cases s len with ⟨_, _, e⟩ | ⟨_, _, e⟩ | ⟨_, _, e⟩ | ⟨_, _, _, e⟩ | ⟨_, _, _, e⟩ <;> simp only [e, setResult_inited, release_inited, deliver_inited, forward_inited, log_inited]
@[simp] theorem route_debug : (s.route len).debug = s.debug := by
  rcases route_cases s len with ⟨_, _, e⟩ | ⟨_, _, e⟩ | ⟨_, _, e⟩ | ⟨_, _, _, e⟩ | ⟨_, _, _, e⟩ <;> simp only [e, setResult_debug, release_debug, deliver_debug, forward_debug, log_debug]
@[simp] theorem route_ts : (s.route len).ts = s.ts := by
  rcases route_cases s len with ⟨_, _, e⟩ | ⟨_, _, e⟩ | ⟨_, _, e⟩ | ⟨_, _, _, e⟩ | ⟨_, _, _, e⟩ <;> simp only [e, setResult_ts, release_ts, deliver_ts, forward_ts, log_ts]
@[simp] theorem route_txbuf : (s.route len).txbuf = s.txbuf := by
  rcases route_cases s len with ⟨_, _, e⟩ | ⟨_, _, e⟩ | ⟨_, _, e⟩ | ⟨_, _, _, e⟩ | ⟨_, _, _, e⟩ <;> simp only [e, setResult_txbuf, release_txbuf, deliver_txbuf, forward_txbuf, log_txbuf]
@[simp] theorem route_rxbuf : (s.route len).rxbuf = s.rxbuf := by
  rcases route_cases s len with ⟨_, _, e⟩ | ⟨_, _, e⟩ | ⟨_, _, e⟩ | ⟨_, _, _, e⟩ | ⟨_, _, _, e⟩ <;> simp only [e, setResult_rxbuf, release_rxbuf, deliver_rxbuf, forward_rxbuf, log_rxbuf]
@[simp] theorem route_arg0 : (s.route len).arg0 = s.arg0 := by
  rcases route_cases s len with ⟨_, _, e⟩ | ⟨_, _, e⟩ | ⟨_, _, e⟩ | ⟨_, _, _, e⟩ | ⟨_, _, _, e⟩ <;> simp only [e, setResult_arg0, release_arg0, deliver_arg0, forward_arg0, log_arg0]
@[simp] theorem route_arg1 : (s.route len).arg1 = s.arg1 := by
  rcases route_cases s len with ⟨_, _, e⟩ | ⟨_, _, e⟩ | ⟨_, _, e⟩ | ⟨_, _, _, e⟩ | ⟨_, _, _, e⟩ <;> simp only [e, setResult_arg1, release_arg1, deliver_arg1, forward_arg1, log_arg1]
@[simp] theorem route_txdata : (s.route len).txdata = s.txdata := by
  rcases route_cases s len with ⟨_, _, e⟩ | ⟨_, _, e⟩ | ⟨_, _, e⟩ | ⟨_, _, _, e⟩ | ⟨_, _, _, e⟩ <;> simp only [e, setResult_txdata, release_txdata, deliver_txdata, forward_txdata, log_txdata]
@[simp] theorem route_rxq : (s.route len).rxq = s.rxq := by
  rcases route_cases s len with ⟨_, _, e⟩ | ⟨_, _, e⟩ | ⟨_, _, e⟩ | ⟨_, _, _, e⟩ | ⟨_, _, _, e⟩ <;> simp only [e, setResult_rxq, release_rxq, deliver_rxq, forward_rxq, log_rxq]
@[simp] theorem route_clock : (s.route len).clock = s.clock := by
  rcases route_cases s len with ⟨_, _, e⟩ | ⟨_, _, e⟩ | ⟨_, _, e⟩ | ⟨_, _, _, e⟩ | ⟨_, _, _, e⟩ <;> simp only [e, setResult_clock, release_clock, deliver_clock, forward_clock, log_clock]
@[simp] theorem route_params : (s.route len).params = s.params := by
  rcases route_cases s len with ⟨_, _, e⟩ | ⟨_, _, e⟩ | ⟨_, _, e⟩ | ⟨_, _, _, e⟩ | ⟨_, _, _, e⟩ <;> simp only [e, setResult_params, release_params, deliver_params, forward_params, log_params]
@[simp] theorem route_baud : (s.route len).baud = s.baud := by
  rcases route_cases s len with ⟨_, _, e⟩ | ⟨_, _, e⟩ | ⟨_, _, e⟩ | ⟨_, _, _, e⟩ | ⟨_, _, _, e⟩ <;> simp only [e, setResult_baud, release_baud, deliver_baud, forward_baud, log_baud]
@[simp] theorem route_inputs : (s.route len).inputs = s.inputs := by
  rcases route_cases s len with ⟨_, _, e⟩ | ⟨_, _, e⟩ | ⟨_, _, e⟩ | ⟨_, _, _, e⟩ | ⟨_, _, _, e⟩ <;> simp only [e, setResult_inputs, release_inputs, deliver_inputs, forward_inputs, log_inputs]
@[simp] theorem route_reads : (s.route len).reads = s.reads := by
  rcases route_cases s len with ⟨_, _, e⟩ | ⟨_, _, e⟩ | ⟨_, _, e⟩ | ⟨_, _, _, e⟩ | ⟨_, _, _, e⟩ <;> simp only [e, setResult_reads, release_reads, deliver_reads, forward_reads, log_reads]
@[simp] theorem route_draws : (s.route len).draws = s.draws := by
  rcases route_cases s len with ⟨_, _, e⟩ | ⟨_, _, e⟩ | ⟨_, _, e⟩ | ⟨_, _, _, e⟩ | ⟨_, _, _, e⟩ <;> simp only [e, setResult_draws, release_draws, deliver_draws, forward_draws, log_draws]
@[simp] theorem route_isBcast : (s.route len).isBcast = s.isBcast := by
  rcases route_cases s len with ⟨_, _, e⟩ | ⟨_, _, e⟩ | ⟨_, _, e⟩ | ⟨_, _, _, e⟩ | ⟨_, _, _, e⟩ <;> simp only [e, setResult_isBcast, release_isBcast, deliver_isBcast, forward_isBcast, log_isBcast]
@[simp] theorem route_isBypass : (s.route len).isBypass = s.isBypass := by
  rcases route_cases s len with ⟨_, _, e⟩ | ⟨_, _, e⟩ | ⟨_, _, e⟩ | ⟨_, _, _, e⟩ | ⟨_, _, _, e⟩ <;> simp only [e, setResult_isBypass, release_isBypass, deliver_isBypass, forward_isBypass, log_isBypass]

@[simp] theorem completeFrame_ownAddr : s.completeFrame.ownAddr = s.ownAddr := by
  rcases completeFrame_cases s with ⟨_, e⟩ | ⟨_, e⟩ <;> simp only [e, setResult_ownAddr, abort_ownAddr, route_ownAddr, log_ownAddr]
@[simp] theorem completeFrame_inited : s.completeFrame.inited = s.inited := by
  rcases completeFrame_cases s with ⟨_, e⟩ | ⟨_, e⟩ <;> simp only [e, setResult_inited, abort_inited, route_inited, log_inited]
@[simp] theorem completeFrame_debug : s.completeFrame.debug = s.debug := by
  rcases completeFrame_cases s with ⟨_, e⟩ | ⟨_, e⟩ <;> simp only [e, setResult_debug, abort_debug, route_debug, log_debug]
@[simp] theorem completeFrame_ts : s.completeFrame.ts = s.ts := by
  rcases completeFrame_cases s with ⟨_, e⟩ | ⟨_, e⟩ <;> simp only [e, setResult_ts, abort_ts, route_ts, log_ts]
@[simp] theorem completeFrame_txbuf : s.completeFrame.txbuf = s.txbuf := by
  rcases completeFrame_cases s with ⟨_, e⟩ | ⟨_, e⟩ <;> simp only [e, setResult_txbuf, abort_txbuf, route_txbuf, log_txbuf]
@[simp] theorem completeFrame_rxbuf : s.completeFrame.rxbuf = s.rxbuf := by
  rcases completeFrame_cases s with ⟨_, e⟩ | ⟨_, e⟩ <;> simp only [e, setResult_rxbuf, abort_rxbuf, route_rxbuf, log_rxbuf]
@[simp] theorem completeFrame_arg0 : s.completeFrame.arg0 = s.arg0 := by
  rcases completeFrame_cases s with ⟨_, e⟩ | ⟨_, e⟩ <;> simp only [e, setResult_arg0, abort_arg0, route_arg0, log_arg0]
@[simp] theorem completeFrame_arg1 : s.completeFrame.arg1 = s.arg1 := by
  rcases completeFrame_cases s with ⟨_, e⟩ | ⟨_, e⟩ <;> simp only [e, setResult_arg1, abort_arg1, route_arg1, log_arg1]
@[simp] theorem completeFrame_txdata : s.completeFrame.txdata = s.txdata := by
  rcases completeFrame_cases s with ⟨_, e⟩ | ⟨_, e⟩ <;> simp only [e, setResult_txdata, abort_txdata, route_txdata, log_txdata]
@[simp] theorem completeFrame_rxq : s.completeFrame.rxq = s.rxq := by
  rcases completeFrame_cases s with ⟨_, e⟩ | ⟨_, e⟩ <;> simp only [e, setResult_rxq, abort_rxq, route_rxq, log_rxq]
@[simp] theorem completeFrame_clock : s.completeFrame.clock = s.clock := by
  rcases completeFrame_cases s with ⟨_, e⟩ | ⟨_, e⟩ <;> simp only [e, setResult_clock, abort_clock, route_clock, log_clock]
@[simp] theorem completeFrame_params : s.completeFrame.params = s.params := by
  rcases completeFrame_cases s with ⟨_, e⟩ | ⟨_, e⟩ <;> simp only [e, setResult_params, abort_params, route_params, log_params]
@[simp] theorem completeFrame_baud : s.completeFrame.baud = s.baud := by
  rcases completeFrame_cases s with ⟨_, e⟩ | ⟨_, e⟩ <;> simp only [e, setResult_baud, abort_baud, route_baud, log_baud]
@[simp] theorem completeFrame_inputs : s.completeFrame.inputs = s.inputs := by
  rcases completeFrame_cases s with ⟨_, e⟩ | ⟨_, e⟩ <;> simp only [e, setResult_inputs, abort_inputs, route_inputs, log_inputs]
@[simp] theorem completeFrame_reads : s.completeFrame.reads = s.reads := by
  rcases completeFrame_cases s with ⟨_, e⟩ | ⟨_, e⟩ <;> simp only [e, setResult_reads, abort_reads, route_reads, log_reads]
@[simp] theorem completeFrame_draws : s.completeFrame.draws = s.draws := by
  rcases completeFrame_cases s with ⟨_, e⟩ | ⟨_, e⟩ <;> simp only [e, setResult_draws, abort_draws, route_draws, log_draws]
@[simp] theorem completeFrame_isBcast : s.completeFrame.isBcast = s.isBcast := by
  rcases completeFrame_cases s with ⟨_, e⟩ | ⟨_, e⟩ <;> simp only [e, setResult_isBcast, abort_isBcast, route_isBcast, log_isBcast]
@[simp] theorem completeFrame_isBypass : s.completeFrame.isBypass = s.isBypass := by
  rcases completeFrame_cases s with ⟨_, e⟩ | ⟨_, e⟩ <;> simp only [e, setResult_isBypass, abort_isBypass, route_isBypass, log_isBypass]

@[simp] theorem checkByte_ownAddr : (s.checkByte b).ownAddr = s.ownAddr := by
  rcases checkByte_cases s b with ⟨_, _, e⟩ | ⟨_, e⟩ | ⟨_, _, e⟩ | ⟨_, e⟩ | ⟨_, _, _, _, e⟩ <;>
    simp only [e, setResult_ownAddr, abort_ownAddr, classify_ownAddr, completeFrame_ownAddr]
@[simp] theorem checkByte_inited : (s.checkByte b).inited = s.inited := by
  rcases checkByte_cases s b with ⟨_, _, e⟩ | ⟨_, e⟩ | ⟨_, _, e⟩ | ⟨_, e⟩ | ⟨_, _, _, _, e⟩ <;>
    simp only [e, setResult_inited, abort_inited, classify_inited, completeFrame_inited]
@[simp] theorem checkByte_debug : (s.checkByte b).debug = s.debug := by
  rcases checkByte_cases s b with ⟨_, _, e⟩ | ⟨_, e⟩ | ⟨_, _, e⟩ | ⟨_, e⟩ | ⟨_, _, _, _, e⟩ <;>
    simp only [e, setResult_debug, abort_debug, classify_debug, completeFrame_debug]
@[simp] theorem checkByte_ts : (s.checkByte b).ts = s.ts := by
  rcases checkByte_cases s b with ⟨_, _, e⟩ | ⟨_, e⟩ | ⟨_, _, e⟩ | ⟨_, e⟩ | ⟨_, _, _, _, e⟩ <;>
    simp only [e, setResult_ts, abort_ts, classify_ts, completeFrame_ts]
@[simp] theorem checkByte_txbuf : (s.checkByte b).txbuf = s.txbuf := by
  rcases checkByte_cases s b with ⟨_, _, e⟩ | ⟨_, e⟩ | ⟨_, _, e⟩ | ⟨_, e⟩ | ⟨_, _, _, _, e⟩ <;>
    simp only [e, setResult_txbuf, abort_txbuf, classify_txbuf, completeFrame_txbuf]
@[simp] theorem checkByte_rxbuf : (s.checkByte b).rxbuf = s.rxbuf := by
  rcases checkByte_cases s b with ⟨_, _, e⟩ | ⟨_, e⟩ | ⟨_, _, e⟩ | ⟨_, e⟩ | ⟨_, _, _, _, e⟩ <;>
    simp only [e, setResult_rxbuf, abort_rxbuf, classify_rxbuf, completeFrame_rxbuf]
@[simp] theorem checkByte_arg0 : (s.checkByte b).arg0 = s.arg0 := by
  rcases checkByte_cases s b with ⟨_, _, e⟩ | ⟨_, e⟩ | ⟨_, _, e⟩ | ⟨_, e⟩ | ⟨_, _, _, _, e⟩ <;>
    simp only [e, setResult_arg0, abort_arg0, classify_arg0, completeFrame_arg0]
@[simp] theorem checkByte_arg1 : (s.checkByte b).arg1 = s.arg1 := by
  rcases checkByte_cases s b with ⟨_, _, e⟩ | ⟨_, e⟩ | ⟨_, _, e⟩ | ⟨_, e⟩ | ⟨_, _, _, _, e⟩ <;>
    simp only [e, setResult_arg1, abort_arg1, classify_arg1, completeFrame_arg1]
@[simp] theorem checkByte_txdata : (s.checkByte b).txdata = s.txdata := by
  rcases checkByte_cases s b with ⟨_, _, e⟩ | ⟨_, e⟩ | ⟨_, _, e⟩ | ⟨_, e⟩ | ⟨_, _, _, _, e⟩ <;>
    simp only [e, setResult_txdata, abort_txdata, classify_txdata, completeFrame_txdata]
@[simp] theorem checkByte_rxq : (s.checkByte b).rxq = s.rxq := by
  rcases checkByte_cases s b with ⟨_, _, e⟩ | ⟨_, e⟩ | ⟨_, _, e⟩ | ⟨_, e⟩ | ⟨_, _, _, _, e⟩ <;>
    simp only [e, setResult_rxq, abort_rxq, classify_rxq, completeFrame_rxq]
@[simp] theorem checkByte_clock : (s.checkByte b).clock = s.clock := by
  rcases checkByte_cases s b with ⟨_, _, e⟩ | ⟨_, e⟩ | ⟨_, _, e⟩ | ⟨_, e⟩ | ⟨_, _, _, _, e⟩ <;>
    simp only [e, setResult_clock, abort_clock, classify_clock, completeFrame_clock]
@[simp] theorem checkByte_params : (s.checkByte b).params = s.params := by
  rcases checkByte_cases s b with ⟨_, _, e⟩ | ⟨_, e⟩ | ⟨_, _, e⟩ | ⟨_, e⟩ | ⟨_, _, _, _, e⟩ <;>
    simp only [e, setResult_params, abort_params, classify_params, completeFrame_params]
@[simp] theorem checkByte_baud : (s.checkByte b).baud = s.baud := by
  rcases checkByte_cases s b with ⟨_, _, e⟩ | ⟨_, e⟩ | ⟨_, _, e⟩ | ⟨_, e⟩ | ⟨_, _, _, _, e⟩ <;>
    simp only [e, setResult_baud, abort_baud, classify_baud, completeFrame_baud]
@[simp] theorem checkByte_inputs : (s.checkByte b).inputs = s.inputs := by
  rcases checkByte_cases s b with ⟨_, _, e⟩ | ⟨_, e⟩ | ⟨_, _, e⟩ | ⟨_, e⟩ | ⟨_, _, _, _, e⟩ <;>
    simp only [e, setResult_inputs, abort_inputs, classify_inputs, completeFrame_inputs]
@[simp] theorem checkByte_reads : (s.checkByte b).reads = s.reads := by
  rcases checkByte_cases s b with ⟨_, _, e⟩ | ⟨_, e⟩ | ⟨_, _, e⟩ | ⟨_, e⟩ | ⟨_, _, _, _, e⟩ <;>
    simp only [e, setResult_reads, abort_reads, classify_reads, completeFrame_reads]
@[simp] theorem checkByte_draws : (s.checkByte b).draws = s.draws := by
  rcases checkByte_cases s b with ⟨_, _, e⟩ | ⟨_, e⟩ | ⟨_, _, e⟩ | ⟨_, e⟩ | ⟨_, _, _, _, e⟩ <;>
    simp only [e, setResult_draws, abort_draws, classify_draws, completeFrame_draws]

@[simp] theorem idleByte_ownAddr : (s.idleByte now b).ownAddr = s.ownAddr := by unfold State.idleByte; split <;> rfl
@[simp] theorem idleByte_inited : (s.idleByte now b).inited = s.inited := by unfold State.idleByte; split <;> rfl
@[simp] theorem idleByte_debug : (s.idleByte now b).debug = s.debug := by unfold State.idleByte; split <;> rfl
@[simp] theorem idleByte_txbuf : (s.idleByte now b).txbuf = s.txbuf := by unfold State.idleByte; split <;> rfl
@[simp] theorem idleByte_arg0 : (s.idleByte now b).arg0 = s.arg0 := by unfold State.idleByte; split <;> rfl
@[simp] theorem idleByte_arg1 : (s.idleByte now b).arg1 = s.arg1 := by unfold State.idleByte; split <;> rfl
@[simp] theorem idleByte_txdata : (s.idleByte now b).txdata = s.txdata := by unfold State.idleByte; split <;> rfl
@[simp] theorem idleByte_outdata : (s.idleByte now b).outdata = s.outdata := by unfold State.idleByte; split <;> rfl
@[simp] theorem idleByte_rxq : (s.idleByte now b).rxq = s.rxq := by unfold State.idleByte; split <;> rfl
@[simp] theorem idleByte_txout : (s.idleByte now b).txout = s.txout := by unfold State.idleByte; split <;> rfl
@[simp] theorem idleByte_clock : (s.idleByte now b).clock = s.clock := by unfold State.idleByte; split <;> rfl
@[simp] theorem idleByte_params : (s.idleByte now b).params = s.params := by unfold State.idleByte; split <;> rfl
@[simp] theorem idleByte_baud : (s.idleByte now b).baud = s.baud := by unfold State.idleByte; split <;> rfl
@[simp] theorem idleByte_inputs : (s.idleByte now b).inputs = s.inputs := by unfold State.idleByte; split <;> rfl
@[simp] theorem idleByte_reads : (s.idleByte now b).reads = s.reads := by unfold State.idleByte; split <;> rfl
@[simp] theorem idleByte_draws : (s.idleByte now b).draws = s.draws := by unfold State.idleByte; split <;> rfl

/-- Routing always ends idle, with CURSOR = 0 (R142). -/
theorem route_released : (s.route len).busy = false ∧ (s.route len).cursor = 0 := by
  rcases route_cases s len with ⟨_, _, e⟩ | ⟨_, _, e⟩ | ⟨_, _, e⟩ | ⟨_, _, _, e⟩ | ⟨_, _, _, e⟩ <;> rw [e] <;> exact ⟨rfl, rfl⟩

/-- Completion always ends idle, with CURSOR = 0 (R142, R197). -/
theorem completeFrame_released : s.completeFrame.busy = false ∧ s.completeFrame.cursor = 0 := by
  rcases completeFrame_cases s with ⟨_, e⟩ | ⟨_, e⟩ <;> rw [e]
  · exact ⟨rfl, rfl⟩
  · exact route_released _ _

/-! ## The last byte of a valid frame -/

/-- Storing the checksum byte leaves L, SRC and the folded bytes as they were. -/
theorem stored_last (restart : Bool) (h : s.cursor.val + 1 < Config.maxFrame) (hc : s.cursor.val = 4 + s.rxLen) :
    (stored restart now b s h).rxLen = s.rxLen ∧ (stored restart now b s h).rxbuf[4] = s.rxbuf[4] ∧
    (stored restart now b s h).rxSrc = s.rxSrc ∧
    (stored restart now b s h).rxbuf.toList.take (5 + s.rxLen) = s.rxbuf.toList.take (5 + s.rxLen) ∧
    (stored restart now b s h).rxbuf[(stored restart now b s h).cursor] = b ∧
    (stored restart now b s h).cursor.val = 5 + s.rxLen := by
  have n4 : ¬(s.cursor.val + 1 = 4) := by omega
  have n3 : ¬(s.cursor.val + 1 = 3) := by omega
  refine ⟨?_, ?_, ?_, ?_, ?_, ?_⟩
  · simp [State.rxLen, n4]
  · simp [n4]
  · simp [State.rxSrc, n3]
  · rw [← bytesFrom_zero, ← bytesFrom_zero, bytesFrom_set_above]; omega
  · simp
  · simp only; omega

/-- What forwarding writes once the checksum byte is stored: the bytes before it, then it (R143). -/
theorem bytesFrom_stored_last (h : s.cursor.val + 1 < Config.maxFrame) (hc : s.cursor.val = 4 + s.rxLen) :
    bytesFrom (s.rxbuf.set (s.cursor.val + 1) b h) 0 (6 + s.rxLen) = s.rxbuf.toList.take (5 + s.rxLen) ++ [b] := by
  have e : s.cursor.val + 1 = 5 + s.rxLen := by omega
  have e' := bytesFrom_set_last s.rxbuf (5 + s.rxLen) b (by rw [← e]; exact h)
  rw [← bytesFrom_zero, ← e']
  simp only [e]
  congr 1
  omega

end Sys2Proof.Machine
end

