-- ==== Sys2Proof/Tests/Slice0.lean ====
section
/-! SUPPORT. Tests, with expected results from spec/95_test_vectors.md (the vector is named in each docstring), and for every
statement with hypotheses a concrete state that meets them. -/

namespace Sys2Proof.Tests

open Sys2Proof.Machine

/-! ## Helpers -/

/-- An initialised, idle node with DEBUG = 1, as the vectors start (95_test_vectors.md, conventions). -/
def node (own : Byte) : State := { State.reset with ownAddr := own, inited := true, debug := true }

/-- A node in the middle of a frame: the bytes stored so far, CURSOR at the last of them, and the bytes still in RXQ. -/
def hearing (own : Byte) (cursor : Fin 26) (stored rxq : List Byte) : State :=
  { node own with busy := true, cursor := cursor, rxbuf := storeFrom State.reset.rxbuf 0 stored, rxq := rxq }

/-- A node with SEND's operands in place. -/
def sender (own dest len : Byte) (payload : List Byte) : State :=
  { node own with arg0 := dest, arg1 := len, txdata := storeFrom State.reset.txdata 0 payload }

/-- A node about to take one input. -/
def facing (s : State) (i : Input) : State := { s with inputs := [i] }

/-- The outcome is a next state with this property. -/
def nextHas (r : Result) (p : State → Bool) : Bool :=
  match r with
  | .next s => p s
  | .fault _ => false
  | .refused _ => false

/-- The outcome is this refusal. -/
def isRefused (r : Result) (why : Refusal) : Bool :=
  match r with
  | .refused w => w == why
  | .next _ => false
  | .fault _ => false

/-! ## Well-formedness: ill-formed terms are refused -/

theorem test_instr_wf : Instr.poll.wf = true := by decide
theorem test_wf_refuses_wide_read : (Access.read 0x10 2).wf = false := by decide
theorem test_wf_refuses_reserved_read : (Access.read 0x44 1).wf = false := by decide
theorem test_wf_refuses_reserved_write : (Access.write 0x24 1 0x00).wf = false := by decide
theorem test_wf_refuses_read_only_write : (Access.write 0x30 1 0x00).wf = false := by decide
theorem test_wf_refuses_wide_write : (Access.write 0x00 2 0x03).wf = false := by decide
theorem test_wf_refuses_reserved_opcode : (Access.write 0x00 1 0x06).wf = false := by decide
theorem test_wf_takes_command_write : (Access.write 0x00 1 0x05).wf = true := by decide
theorem test_wf_refuses_ill_formed_input : (Input.access (.read 0x06 1)).wf = false := by decide
theorem test_wf_refuses_long_loadtx : (Line.loadtx (List.replicate 21 0)).wf = false := by decide
theorem test_wf_takes_full_loadtx : (Line.loadtx (List.replicate 20 0)).wf = true := by decide
theorem test_wf_refuses_write_to_result : (Line.wr .result 0).wf = false := by decide
theorem test_wf_refuses_wr_of_reserved_opcode : (Line.wr .cmd 0x00).wf = false := by decide

/-! ## Decoding: the words of 30_encoding.md R83, written out bit by bit -/

theorem test_decode_init : decodeTableWord 8 0b00000001 = some .init := by decide
theorem test_decode_send : decodeTableWord 8 0b00000010 = some .send := by decide
theorem test_decode_poll : decodeTableWord 8 0b00000011 = some .poll := by decide
theorem test_decode_isBusy : decodeTableWord 8 0b00000100 = some .isBusy := by decide
theorem test_decode_dump : decodeTableWord 8 0b00000101 = some .dump := by decide
theorem test_decode_refuses_zero : decodeTableWord 8 0b00000000 = none := by decide
theorem test_decode_refuses_six : decodeTableWord 8 0b00000110 = none := by decide
theorem test_decode_refuses_all_ones : decodeTableWord 8 0b11111111 = none := by decide
theorem test_decode_refuses_two_commands : decodeTableWord 16 0b0000000100000001 = none := by decide

/-! ## Checksum -/

/-- CK-1 -/
theorem test_chk_of_frame : chk [0xEF, 0xFA, 0x10, 0x05, 0x02, 0x01, 0x02] = 0xFE := by decide
/-- CK-13 -/
theorem test_chk_of_nothing : chk [] = 0xFF := by decide

/-! ## One step of each command -/

/-- IN-1, through a step: the command word placed, OWN_ADDR, STATUS and RESULT after it. -/
theorem test_init_succeeds :
    nextHas (step ({ State.reset with arg0 := 0x05, arg1 := 0x01 }.withFetchWord 8 0x01)) (fun t =>
      t.ownAddr == 0x05 && t.statusByte == 0x06 && t.result == 0x01) = true := by decide
/-- IN-3 -/
theorem test_init_rejects_address :
    nextHas (exec .init { State.reset with arg0 := 0x80 }) (fun t =>
      t.ownAddr == 0x00 && t.statusByte == 0x00 && t.result == 0x00) = true := by decide

/-- SV-16: no escaping of `EF FA` in the payload. -/
theorem test_send_does_not_escape :
    nextHas (exec .send (sender 0x05 0x10 2 [0xEF, 0xFA])) (fun t =>
      t.result == 0x00 && !t.busy && t.txout == [0xEF, 0xFA, 0x10, 0x05, 0x02, 0xEF, 0xFA, 0xE8]) = true := by decide
/-- SV-9: the length is checked before the address. -/
theorem test_send_checks_length_first :
    nextHas (exec .send (sender 0x05 0x00 21 [])) (fun t =>
      t.result == 0xFF && t.txout == [] && t.logout == [.tag .startSending, .tag .lengthErr]) = true := by decide

/-- RX-1, its last POLL. -/
theorem test_poll_delivers :
    nextHas (exec .poll (hearing 0x10 6 [0xEF, 0xFA, 0x10, 0x05, 0x02, 0x01, 0x02] [0xFE])) (fun t =>
      t.result == 2 && !t.busy && t.outdata[0] == 0x01 && t.outdata[1] == 0x02 &&
      t.logout == [.tag .validPackage, .tag .dataRecv]) = true := by decide
/-- RX-21, its last POLL: the clock wrapped around, 0x70 = 112 units elapsed; then FE is an idle byte. -/
theorem test_poll_times_out_across_wrap :
    nextHas (exec .poll { hearing 0x10 6 [0xEF, 0xFA, 0x10, 0x05, 0x02, 0x01, 0x02] [0xFE] with
        ts := 0xFFFFFFF0, clock := 0x00000060 }) (fun t =>
      t.result == 0 && !t.busy && t.rxq == [] && t.logout == [.tag .timeOut, .tag .noStart1]) = true := by decide

/-- CT-8: at t = 500 a stalled frame still reads busy. -/
theorem test_isBusy_ignores_the_clock :
    nextHas (exec .isBusy { hearing 0x10 0 [0xEF] [] with clock := 500 }) (fun t => t.result == 0x01 && t.busy) = true := by
  decide
/-- CT-4 -/
theorem test_isBusy_idle : nextHas (exec .isBusy { node 0x10 with result := 7 }) (fun t => t.result == 0x00) = true := by decide

/-- CT-6 -/
theorem test_dump_refuses_direction : isRefused (exec .dump { node 0x10 with arg1 := 2 }) .badOperand = true := by decide
/-- CT-7 -/
theorem test_dump_silent_without_debug :
    nextHas (exec .dump { node 0x10 with debug := false, result := 2 }) (fun t => t.result == 2 && t.logout == []) = true := by
  decide

/-! ## Host accesses and host programs -/

/-- MV-1 -/
theorem test_read_cmd : nextHas (step (facing (node 0x10) (.access (.read 0x00 1)))) (fun t => t.reads == [0x00]) = true := by
  decide
/-- MV-7 -/
theorem test_write_last_txdata :
    nextHas (step (facing (node 0x10) (.access (.write 0x23 1 0x99)))) (fun t => t.txdata[19] == 0x99) = true := by decide
/-- A full queue may lose all its bytes at once, or some of them; one with room loses none (R63, R8). -/
theorem test_full_queue_drops :
    let full := { node 0x10 with params := ⟨32, false, some 3⟩, rxq := [0x01, 0x02, 0x03] }
    nextHas (step (facing full (.lose [0, 1, 2]))) (fun t => t.rxq == []) = true ∧
    nextHas (step (facing full (.lose [1]))) (fun t => t.rxq == [0x01, 0x03]) = true ∧
    nextHas (step (facing { full with rxq := [0x01, 0x02] } (.lose [0]))) (fun t => t.rxq == [0x01, 0x02]) = true := by decide
/-- P1's lines `SEND 0x10, 2` and `RD RESULT`, encoded. -/
theorem test_line_encodings :
    lineInputs (.send 0x10 2) ++ lineInputs (.rd .result) =
      [.access (.write 0x01 1 0x10), .access (.write 0x02 1 2), .access (.write 0x00 1 0x02), .access (.read 0x03 1)] := by
  decide
/-- An `until` that never holds fails the test (R103). -/
theorem test_until_gives_up :
    (match runProgram [.untilHolds (.readIs 0 0x01) 2 [.rd .cmd]] State.reset with
     | .testFailed s => s.reads == [0x00, 0x00]
     | _ => false) = true := by decide

/-! ## The hypotheses of the statements are met -/

theorem witness_DecodeFollowsOpcodeMap : ((0x00 : Byte).toNat = 0 ∧ 6 ≤ (0x06 : Byte).toNat) ∧ 6 ≤ (0xFF : Byte).toNat := by
  decide
theorem witness_DecodeEncodeRoundTrip : Instr.dump.wf = true ∧ (decode 0x05).toOption = some .dump := by decide
theorem witness_RegisterMapIsExact_first : Reg.atOffset 0x10 = some (.txdata 0) := by decide
theorem witness_RegisterMapIsExact_last : Reg.atOffset 0x43 = some (.outdata 19) := by decide

theorem witness_StepRunsDecodedCommand :
    ∃ s : State, s.inputs = .access (.write 0x00 1 0x03) :: [] ∧ decode 0x03 = .ok .poll :=
  ⟨facing (node 0x10) (.access (.write 0x00 1 0x03)), rfl, rfl⟩
theorem witness_FetchedWordRuns : 0x05 < 256 ∧ decodeTableWord 8 0x05 = some .dump := by decide

theorem witness_HostAccessRefusals_width :
    (0 : Nat) ≠ 1 ∧ (2 : Nat) ≠ 1 ∧
    (facing State.reset (.access (.read 0x10 0))).inputs = .access (.read 0x10 0) :: [] ∧
    (facing State.reset (.access (.write 0x06 2 0))).inputs = .access (.write 0x06 2 0) :: [] := by decide
theorem witness_HostAccessRefusals_offset :
    (Reg.atOffset 0x06 = none ∧ Reg.atOffset 0x24 = none) ∧ (Reg.atOffset 0x44 = none ∧ Reg.atOffset 0xFF = none) ∧
    (facing State.reset (.access (.read 0x06 1))).inputs = .access (.read 0x06 1) :: [] ∧
    (facing State.reset (.access (.write 0x44 1 0))).inputs = .access (.write 0x44 1 0) :: [] := by decide
theorem witness_HostAccessRefusals_read_only :
    Reg.result.writable = false ∧ (Reg.outdata 19).writable = false ∧
    (facing State.reset (.access (.write Reg.result.offset 1 0))).inputs = .access (.write Reg.result.offset 1 0) :: [] := by
  decide
theorem witness_HostAccessRefusals_opcode :
    6 ≤ (0x06 : Byte).toNat ∧
    (facing State.reset (.access (.write 0x00 1 0x06))).inputs = .access (.write 0x00 1 0x06) :: [] := by decide

theorem witness_HostWriteSetsOperand :
    (facing State.reset (.access (.write 0x01 1 0x33))).inputs = .access (.write 0x01 1 0x33) :: [] ∧
    (facing State.reset (.access (.write 0x02 1 0x33))).inputs = .access (.write 0x02 1 0x33) :: [] ∧
    (facing State.reset (.access (.write 0x23 1 0x99))).inputs =
      .access (.write (BitVec.ofNat 8 (0x10 + (19 : Fin 20).val)) 1 0x99) :: [] := by decide
theorem witness_HostReadReturnsRegister :
    (facing State.reset (.access (.read 0x43 1))).inputs = .access (.read 0x43 1) :: [] ∧
    Reg.atOffset 0x43 = some (.outdata 19) := by decide
theorem witness_PseudoInstructionsRunTheirCommand : (List.replicate 20 (0x01 : Byte)).length ≤ 20 := by decide
theorem witness_OwnaddrReadsOwnAddr :
    (facing (node 0x10) (.access (.read 0x05 1))).inputs = .access (.read 0x05 1) :: [] ∧
    (facing (node 0x10) (.access (.write 0x05 1 0x11))).inputs = .access (.write 0x05 1 0x11) :: [] := by decide
theorem witness_EnvironmentEvents :
    (facing (node 0x10) (.arrive 0xEF)).inputs = .arrive 0xEF :: [] ∧
    (facing (node 0x10) (.clock 101)).inputs = .clock 101 :: [] ∧
    (facing (node 0x10) (.lose [0, 1])).inputs = .lose [0, 1] :: [] ∧ State.reset.inputs = [] := by decide
/-- A queue of capacity 2 that is full, and one that has room for one byte. -/
theorem witness_EnvironmentEvents_capacity :
    { node 0x10 with params := ⟨32, false, some 2⟩, rxq := [0x55, 0x55] }.QueueFull ∧
    ¬{ node 0x10 with params := ⟨32, false, some 2⟩, rxq := [0x55] }.QueueFull ∧ ¬(node 0x10).QueueFull :=
  ⟨⟨2, rfl, by decide⟩, fun ⟨_, h, hl⟩ => by cases h; exact absurd hl (by decide), fun ⟨_, h, _⟩ => by cases h⟩

theorem witness_ChecksumDetectsChanges :
    [0xEF, 0x00].length = [0xEF, (0x01 : Byte)].length ∧ chk [0xEF, 0x00] = 0x10 ∧ (0x01 : Byte) ≠ [0xEF, 0x00][1] := by decide

/-! ### SEND -/

/-- Length 20, the largest, to 0x7F, the highest address. -/
theorem witness_SendTransmitsFrame :
    (sender 0x05 0x7F 20 []).inited = true ∧ (sender 0x05 0x7F 20 []).arg1.toNat ≤ 20 ∧
    1 ≤ (sender 0x05 0x7F 20 []).arg0.toNat ∧ (sender 0x05 0x7F 20 []).arg0.toNat ≤ 0x7F ∧
    (sender 0x05 0x7F 20 []).arg0 ≠ (sender 0x05 0x7F 20 []).ownAddr ∧ (sender 0x05 0x7F 20 []).busy = false := by decide
/-- The master to itself, with no payload. -/
theorem witness_SendTransmitsFrame_broadcast :
    (sender 0x01 0x01 0 []).inited = true ∧ (sender 0x01 0x01 0 []).arg1.toNat ≤ 20 ∧
    1 ≤ (sender 0x01 0x01 0 []).arg0.toNat ∧ (sender 0x01 0x01 0 []).arg0.toNat ≤ 0x7F ∧
    (sender 0x01 0x01 0 []).arg0 = 0x01 ∧ (sender 0x01 0x01 0 []).busy = false := by decide
theorem witness_SendRejections_length :
    (sender 0x05 0x10 21 []).inited = true ∧ 20 < (sender 0x05 0x10 21 []).arg1.toNat ∧
    20 < (sender 0x05 0x10 255 []).arg1.toNat := by decide
theorem witness_SendRejections_address :
    (sender 0x05 0x00 20 []).inited = true ∧ (sender 0x05 0x00 20 []).arg1.toNat ≤ 20 ∧
    (sender 0x05 0x00 20 []).arg0.toNat < 1 ∧ 0x7F < (sender 0x05 0x80 20 []).arg0.toNat := by decide
theorem witness_SendRejections_self :
    (sender 0x7F 0x7F 0 []).inited = true ∧ (sender 0x7F 0x7F 0 []).arg1.toNat ≤ 20 ∧
    1 ≤ (sender 0x7F 0x7F 0 []).arg0.toNat ∧ (sender 0x7F 0x7F 0 []).arg0.toNat ≤ 0x7F ∧
    (sender 0x7F 0x7F 0 []).arg0 = (sender 0x7F 0x7F 0 []).ownAddr ∧ (sender 0x7F 0x7F 0 []).arg0 ≠ 0x01 := by decide
theorem witness_SendRejections_busy :
    let s := { sender 0x05 0x01 20 [] with busy := true }
    s.inited = true ∧ s.arg1.toNat ≤ 20 ∧ 1 ≤ s.arg0.toNat ∧ s.arg0.toNat ≤ 0x7F ∧ s.arg0 ≠ s.ownAddr ∧ s.busy = true := by
  decide

/-! ### INIT, ISBUSY, DUMP -/

theorem witness_InitFollowsItsRule_again : (node 0x05).inited = true := by decide
theorem witness_InitFollowsItsRule_flags :
    State.reset.inited = false ∧ 2 ≤ { State.reset with arg1 := 2 }.arg1.toNat ∧ 2 ≤ { State.reset with arg1 := 0x80 }.arg1.toNat := by
  decide
theorem witness_InitFollowsItsRule_address :
    State.reset.inited = false ∧ State.reset.arg1.toNat < 2 ∧ State.reset.arg0.toNat < 1 ∧
    0x7F < { State.reset with arg0 := 0x80 }.arg0.toNat := by decide
theorem witness_InitFollowsItsRule_success :
    let lo : State := { State.reset with arg0 := 0x01, arg1 := 1 }
    let hi : State := { State.reset with arg0 := 0x7F }
    lo.inited = false ∧ lo.arg1.toNat < 2 ∧ 1 ≤ lo.arg0.toNat ∧ lo.arg0.toNat ≤ 0x7F ∧
    hi.inited = false ∧ hi.arg1.toNat < 2 ∧ 1 ≤ hi.arg0.toNat ∧ hi.arg0.toNat ≤ 0x7F := by decide
theorem witness_IsBusyReportsBusy :
    (node 0x10).inited = true ∧ ∃ t, exec .send (sender 0x05 0x10 0 []) = .next t :=
  ⟨rfl, _, rfl⟩
theorem witness_DumpOutcomes_refused : (node 0x10).inited = true ∧ 2 ≤ { node 0x10 with arg1 := 2 }.arg1.toNat := by decide
theorem witness_DumpOutcomes_silent :
    let s := { node 0x10 with debug := false, arg1 := 1 }
    s.inited = true ∧ s.arg1.toNat < 2 ∧ s.debug = false := by decide
theorem witness_DumpOutcomes_lines :
    let s := { node 0x10 with arg1 := 1 }
    s.inited = true ∧ s.arg1.toNat < 2 ∧ s.debug = true ∧ (node 0x10).arg1 = 0 := by decide
theorem witness_CommandsNeedInit : Instr.send ≠ .init ∧ State.reset.inited = false := by decide

/-! ### POLL -/

/-- An elapsed time of 100 and of 101, one of 2^31, and one of 101 with the narrowest clock that reaches it. -/
theorem witness_TimeoutThreshold :
    let at100 := { hearing 0x10 0 [0xEF] [] with ts := 1000, clock := 1100 }
    let at101 := { hearing 0x10 0 [0xEF] [] with ts := 1000, clock := 1101 }
    let far := { hearing 0x10 0 [0xEF] [] with clock := 0x80000000 }
    let narrow := { hearing 0x10 0 [0xEF] [] with params := ⟨8, false, none⟩, ts := 200, clock := 45 }
    narrow.busy = true ∧ 8 ≤ narrow.params.timeWidth ∧
    narrow.clock = (narrow.ts + 101) % 2 ^ narrow.params.timeWidth ∧
    at100.busy = true ∧ at100.clock = (at100.ts + 100) % 2 ^ at100.params.timeWidth ∧ at101.busy = true ∧ 8 ≤ at101.params.timeWidth ∧ at101.clock = (at101.ts + 101) % 2 ^ at101.params.timeWidth ∧
    far.busy = true ∧ ((far.clock : Int) - far.ts) % 2 ^ far.params.timeWidth = 2 ^ 31 := by decide
theorem witness_PollTimeoutAborts :
    let s := { hearing 0x10 0 [0xEF] [] with clock := 101 }
    s.inited = true ∧ s.busy = true ∧ 100 < s.elapsedTime ∧ s.rxq = [] := by decide
theorem witness_PollWithoutByteWaits :
    let s := { hearing 0x10 0 [0xEF] [] with clock := 100 }
    s.inited = true ∧ s.inTime ∧ s.rxq = [] := by decide
theorem witness_PollIdleByte_other :
    let s := { node 0x10 with rxq := [0x55] }
    s.inited = true ∧ s.busy = false ∧ s.rxq = 0x55 :: [] ∧ (0x55 : Byte) ≠ 0xEF := by decide
theorem witness_PollIdleByte_start :
    let s := { node 0x10 with rxq := [0xEF, 0xFA] }
    s.inited = true ∧ s.busy = false ∧ s.rxq = 0xEF :: [0xFA] := by decide
theorem witness_PollSecondMarker :
    let bad := hearing 0x10 0 [0xEF] [0xEF]
    let good := hearing 0x10 0 [0xEF] [0xFA]
    bad.inited = true ∧ bad.busy = true ∧ bad.inTime ∧ bad.cursor.val = 0 ∧ bad.rxq = 0xEF :: [] ∧
    good.inited = true ∧ good.busy = true ∧ good.inTime ∧ good.cursor.val = 0 ∧ good.rxq = 0xFA :: [] := by decide
theorem witness_PollStoresUncheckedByte_dest :
    let s := hearing 0x10 1 [0xEF, 0xFA] [0x10]
    s.cursor.val + 1 < 26 ∧ s.inited = true ∧ s.busy = true ∧ s.inTime ∧ s.rxq = 0x10 :: [] ∧ s.cursor.val = 1 := by decide
/-- The first byte of a one-byte payload, and the last of a twenty-byte one. -/
theorem witness_PollStoresUncheckedByte_payload :
    let first := hearing 0x10 4 [0xEF, 0xFA, 0x10, 0x05, 1] [0xAA]
    let last := hearing 0x10 23 [0xEF, 0xFA, 0x10, 0x05, 20] [0xAA]
    first.cursor.val + 1 < 26 ∧ first.inTime ∧ first.rxq = 0xAA :: [] ∧ 4 ≤ first.cursor.val ∧
    first.cursor.val < 4 + first.rxLen ∧
    last.cursor.val + 1 < 26 ∧ last.inited = true ∧ last.busy = true ∧ last.inTime ∧ last.rxq = 0xAA :: [] ∧
    4 ≤ last.cursor.val ∧ last.cursor.val < 4 + last.rxLen := by decide
theorem witness_PollClassifiesFrame :
    let s := hearing 0x10 2 [0xEF, 0xFA, 0x01] [0x01]
    s.inited = true ∧ s.busy = true ∧ s.inTime ∧ s.cursor.val = 2 ∧ s.rxq = 0x01 :: [] ∧ s.rxDest = 0x01 := by decide
theorem witness_PollClassifiesFrame_bypass :
    let s := hearing 0x10 2 [0xEF, 0xFA, 0x20] [0x05]
    s.inited = true ∧ s.busy = true ∧ s.inTime ∧ s.cursor.val = 2 ∧ s.rxq = 0x05 :: [] ∧ s.rxDest ≠ s.ownAddr := by decide
theorem witness_PollLengthByte :
    let long := hearing 0x10 3 [0xEF, 0xFA, 0x10, 0x05] [21]
    let most := hearing 0x10 3 [0xEF, 0xFA, 0x10, 0x05] [20]
    long.inited = true ∧ long.busy = true ∧ long.inTime ∧ long.cursor.val = 3 ∧ long.rxq = 21 :: [] ∧ 20 < (21 : Byte).toNat ∧
    most.inited = true ∧ most.busy = true ∧ most.inTime ∧ most.cursor.val = 3 ∧ most.rxq = 20 :: [] ∧
    (20 : Byte).toNat ≤ 20 := by decide
/-- RX-4, and a frame with no payload. -/
theorem witness_PollChecksumMismatchAborts :
    let s := hearing 0x10 6 [0xEF, 0xFA, 0x10, 0x05, 0x02, 0x01, 0x02] [0xFF]
    let empty := hearing 0x10 4 [0xEF, 0xFA, 0x10, 0x05, 0x00] [0x00]
    s.cursor.val + 1 < 26 ∧ s.inited = true ∧ s.busy = true ∧ s.inTime ∧ s.rxq = 0xFF :: [] ∧
    s.cursor.val = 4 + s.rxLen ∧ 0xFF ≠ chk (s.rxbuf.toList.take (5 + s.rxLen)) ∧
    empty.cursor.val = 4 + empty.rxLen ∧ 0x00 ≠ chk (empty.rxbuf.toList.take (5 + empty.rxLen)) := by decide
theorem witness_PollChecksumMismatchAborts_payload :
    let s := hearing 0x10 4 [0xEF, 0xFA, 0x10, 0x05, 1] [0xAA]
    s.cursor.val + 1 < 26 ∧ s.inited = true ∧ s.busy = true ∧ s.inTime ∧ s.rxq = 0xAA :: [] ∧ 4 ≤ s.cursor.val ∧
    s.cursor.val < 4 + s.rxLen := by decide
/-- RX-12, the end of a broadcast cycle. -/
theorem witness_PollDropsLoopBack_broadcast :
    let s := { hearing 0x01 5 [0xEF, 0xFA, 0x01, 0x01, 0x01, 0xAA] [0x41] with isBcast := true }
    s.cursor.val + 1 < 26 ∧ s.inited = true ∧ s.busy = true ∧ s.inTime ∧ s.rxq = 0x41 :: [] ∧
    s.cursor.val = 4 + s.rxLen ∧ 0x41 = chk (s.rxbuf.toList.take (5 + s.rxLen)) ∧ s.rxSrc = s.ownAddr := by decide
/-- RX-15, a node's own frame that comes back. -/
theorem witness_PollDropsLoopBack_bad_cycle :
    let s := { hearing 0x05 6 [0xEF, 0xFA, 0x10, 0x05, 0x02, 0x01, 0x02] [0xFE] with isBypass := true }
    s.cursor.val + 1 < 26 ∧ s.inited = true ∧ s.busy = true ∧ s.inTime ∧ s.rxq = 0xFE :: [] ∧
    s.cursor.val = 4 + s.rxLen ∧ 0xFE = chk (s.rxbuf.toList.take (5 + s.rxLen)) ∧ s.rxSrc = s.ownAddr := by decide
/-- RX-26: six bytes, DEST out of range. -/
theorem witness_PollForwardsBypass :
    let s := { hearing 0x10 4 [0xEF, 0xFA, 0x80, 0x05, 0x00] [0x6F] with isBypass := true }
    s.cursor.val + 1 < 26 ∧ s.inited = true ∧ s.busy = true ∧ s.inTime ∧ s.rxq = 0x6F :: [] ∧
    s.cursor.val = 4 + s.rxLen ∧ 0x6F = chk (s.rxbuf.toList.take (5 + s.rxLen)) ∧ s.rxSrc ≠ s.ownAddr ∧
    s.isBcast = false ∧ s.isBypass = true := by decide
/-- RX-3: the longest frame. -/
theorem witness_PollDeliversUnicast :
    let s := hearing 0x10 24 [0xEF, 0xFA, 0x10, 0x05, 0x14, 1, 2, 3, 4, 5, 6, 7, 8, 9, 10, 11, 12, 13, 14, 15, 16, 17, 18, 19, 20]
      [0xFF]
    s.cursor.val + 1 < 26 ∧ s.inited = true ∧ s.busy = true ∧ s.inTime ∧ s.rxq = 0xFF :: [] ∧
    s.cursor.val = 4 + s.rxLen ∧ 0xFF = chk (s.rxbuf.toList.take (5 + s.rxLen)) ∧ s.rxSrc ≠ s.ownAddr ∧
    s.isBcast = false ∧ s.isBypass = false := by decide +kernel
/-- RX-11. -/
theorem witness_PollRelaysBroadcast :
    let s := { hearing 0x10 5 [0xEF, 0xFA, 0x01, 0x01, 0x01, 0xAA] [0x41] with isBcast := true }
    s.cursor.val + 1 < 26 ∧ s.inited = true ∧ s.busy = true ∧ s.inTime ∧ s.rxq = 0x41 :: [] ∧
    s.cursor.val = 4 + s.rxLen ∧ 0x41 = chk (s.rxbuf.toList.take (5 + s.rxLen)) ∧ s.rxSrc ≠ s.ownAddr ∧
    s.isBcast = true := by decide
/-- RX-2's last POLL, which delivers, and one with no byte, which does not. -/
theorem witness_PollResultIsDeliveredLength :
    let s := hearing 0x10 4 [0xEF, 0xFA, 0x10, 0x05, 0x00] [0xFF]
    (∃ t, exec .poll s = .next t) ∧ s.busy = true ∧ s.inTime ∧ s.cursor.val = 4 + s.rxLen ∧
    s.rxq.head? = some (chk (s.rxbuf.toList.take (5 + s.rxLen))) ∧ s.rxSrc ≠ s.ownAddr ∧ s.isBypass = false ∧
    (∃ t, exec .poll (node 0x10) = .next t) ∧ (node 0x10).busy = false :=
  ⟨⟨_, rfl⟩, by decide, by decide, by decide, by decide, by decide, by decide, ⟨_, rfl⟩, by decide⟩
theorem witness_PollConsumesOneByte : ∃ t, exec .poll { node 0x10 with rxq := [0x55, 0x55] } = .next t := ⟨_, rfl⟩
theorem witness_PollFrame : ∃ t, exec .poll (hearing 0x10 0 [0xEF] [0xFA]) = .next t := ⟨_, rfl⟩
theorem witness_PollCompletes :
    let s := hearing 0x10 24 [0xEF, 0xFA, 0x10, 0x05, 20] [0xFF]
    s.inited = true ∧ (s.busy = true → s.cursor.val ≤ 24) := by decide
theorem witness_RestartTimerDecidesTimestamp :
    let s := { hearing 0x10 24 [0xEF, 0xFA, 0x10, 0x05, 20] [0xFF] with params := ⟨32, true, none⟩, clock := 90 }
    s.inited = true ∧ s.params.restartTimerPerByte = true ∧ s.busy = true ∧ s.inTime ∧ s.cursor.val ≤ 24 ∧ s.rxq = 0xFF :: [] := by decide

/-! ### The whole machine -/

/-- The state after reset has the invariant. -/
theorem reset_inv : State.reset.Inv := by constructor <;> decide
/-- So has a node in the middle of a frame, RX-1 before its last POLL, about to poll. -/
def busyNode : State :=
  facing (hearing 0x10 6 [0xEF, 0xFA, 0x10, 0x05, 0x02, 0x01, 0x02] [0xFE]) (.access (.write 0x00 1 0x03))
theorem witness_StepKeepsInv : busyNode.Inv ∧ ∃ t, step busyNode = .next t :=
  ⟨by constructor <;> decide, _, rfl⟩
theorem witness_StepNeverFaults : busyNode.Inv := witness_StepKeepsInv.1
theorem witness_IdentityIsImmutable : busyNode.inited = true ∧ ∃ t, step busyNode = .next t := ⟨rfl, _, rfl⟩
theorem witness_OnlyStart1SetsBusy :
    let s := facing { node 0x10 with rxq := [0xEF] } (.access (.write 0x00 1 0x03))
    ∃ t, step s = .next t ∧ s.busy = false ∧ t.busy = true := ⟨_, rfl, rfl, rfl⟩
theorem witness_ParametersAreFixed : ∃ t, step busyNode = .next t := ⟨_, rfl⟩
theorem witness_OnlyPollTakesFromQueue :
    let s := facing { node 0x10 with params := ⟨32, false, some 2⟩, rxq := [0x55] } (.arrive 0xEF)
    (∃ t, step s = .next t) ∧ ¬s.QueueFull ∧ s.params.rxqDepth = some 2 ∧ s.rxq.length ≤ 2 :=
  ⟨⟨_, rfl⟩, fun ⟨_, h, hl⟩ => by cases h; exact absurd hl (by decide), rfl, by decide⟩
theorem witness_OutputsOnlyGrow : ∃ t, step busyNode = .next t := ⟨_, rfl⟩
theorem witness_DebugChangesOnlyTheLog :
    (∃ t, Instr.poll ≠ .init ∧ exec .poll (node 0x10) = .next t) ∧
    (∃ t, step ({ State.reset with arg0 := 0x05, arg1 := 0x01 }.withFetchWord 8 0x01) = .next t ∧
      t.debug ≠ State.reset.debug) ∧
    (∃ t, { node 0x10 with debug := false }.debug = false ∧ exec .isBusy { node 0x10 with debug := false } = .next t) :=
  ⟨⟨_, by decide, rfl⟩, ⟨_, rfl, by decide⟩, ⟨_, rfl, rfl⟩⟩
theorem witness_CommandsKeepOperands : ∃ t, exec .send (sender 0x05 0x10 0 []) = .next t := ⟨_, rfl⟩
theorem witness_OnlyPollLooksAtQueueAndClock : Instr.dump ≠ .poll := by decide

/-! ### Frames end to end -/

/-- SV-2: node 0x05 sends an empty frame to node 0x10. -/
theorem witness_SendThenReceiveRoundTrip :
    let a := sender 0x05 0x10 0 []
    let sent : List Byte := [0xEF, 0xFA, 0x10, 0x05, 0x00, 0xFF]
    let r := { node 0x10 with rxq := sent ++ [0x55] }
    (∃ a', a.inited = true ∧ exec .send a = .next a' ∧ a'.result = 0x00 ∧ a'.txout = a.txout ++ sent) ∧
    r.inited = true ∧ r.busy = false ∧ r.ownAddr = a.arg0 ∧ a.ownAddr ≠ a.arg0 ∧ r.rxq = sent ++ [0x55] :=
  ⟨⟨_, rfl, rfl, by decide, by decide⟩, by decide⟩
/-- RX-10. -/
theorem witness_BypassFrameIsRelayedVerbatim :
    let r := { node 0x10 with rxq := [0xEF, 0xFA, 0x20, 0x05, 0x03, 0x11, 0x22, 0x33, 0xCC] }
    r.inited = true ∧ r.busy = false ∧ [(0x11 : Byte), 0x22, 0x33].length = (3 : Byte).toNat ∧ (3 : Byte).toNat ≤ 20 ∧
    0x20 ≠ r.ownAddr ∧ 0x05 ≠ r.ownAddr ∧ ¬((0x20 : Byte) = 0x01 ∧ (0x05 : Byte) = 0x01) ∧
    r.rxq = frame 0x20 0x05 3 [0x11, 0x22, 0x33] ++ [] := by decide
/-- RX-11. -/
theorem witness_BroadcastIsRelayedAndDelivered :
    let r := { node 0x10 with rxq := [0xEF, 0xFA, 0x01, 0x01, 0x01, 0xAA, 0x41] }
    r.inited = true ∧ r.busy = false ∧ [(0xAA : Byte)].length = (1 : Byte).toNat ∧ (1 : Byte).toNat ≤ 20 ∧
    r.ownAddr ≠ 0x01 ∧ r.rxq = frame 0x01 0x01 1 [0xAA] ++ [] := by decide
/-- RX-15. -/
theorem witness_OwnFrameIsNotRelayed :
    let r := { node 0x05 with rxq := [0xEF, 0xFA, 0x10, 0x05, 0x02, 0x01, 0x02, 0xFE] }
    r.inited = true ∧ r.busy = false ∧ [(0x01 : Byte), 0x02].length = (2 : Byte).toNat ∧ (2 : Byte).toNat ≤ 20 ∧
    r.rxq = frame 0x10 r.ownAddr 2 [0x01, 0x02] ++ [] := by decide
/-- RX-4: the checksum byte changed. -/
theorem witness_CorruptedFrameIsDiscarded :
    let r := { node 0x10 with rxq := [0xEF, 0xFA, 0x10, 0x05, 0x02, 0x01, 0x02, 0xFF] }
    r.inited = true ∧ r.busy = false ∧ [(0x01 : Byte), 0x02].length = (2 : Byte).toNat ∧ (2 : Byte).toNat ≤ 20 ∧
    (∃ hk : 7 < (frame 0x10 0x05 2 [0x01, 0x02]).length, (0xFF : Byte) ≠ (frame 0x10 0x05 2 [0x01, 0x02])[7]) ∧
    (7 ≠ 0 ∧ 7 ≠ 1 ∧ 7 ≠ 4) ∧ r.rxq = (frame 0x10 0x05 2 [0x01, 0x02]).set 7 0xFF ++ [] :=
  ⟨by decide, by decide, by decide, by decide, ⟨by decide, by decide⟩, by decide, by decide⟩

end Sys2Proof.Tests
end

namespace Sys2Proof.Machine

/-! ## The parameters of 00_scope.md R8: no command, access or event writes them (10_state.md R43) -/

/-- Taking one byte keeps the parameters, whether it is discarded, starts a frame or continues one. -/
theorem byteStep_next_params {restart : Bool} {now : Nat} {b : Byte} {s t : State}
    (h : byteStep restart now b s = .next t) : t.params = s.params := by
  rcases byteStep_next h with ⟨-, rfl⟩ | ⟨-, hc, rfl⟩
  · exact idleByte_params s b now
  · exact checkByte_params (stored restart now b s hc) b

/-- Every command that answers a next state keeps the parameters. -/
theorem exec_next_params {i : Instr} {s t : State} (h : exec i s = .next t) : t.params = s.params := by
  cases i with
  | init => obtain ⟨-, -, ⟨-, rfl⟩ | ⟨-, rfl⟩⟩ := exec_init_next h <;> rfl
  | send => obtain ⟨-, rfl | rfl | rfl | ⟨-, rfl⟩ | ⟨-, -, rfl⟩⟩ := exec_send_next h <;> rfl
  | isBusy => obtain ⟨-, rfl⟩ := exec_isBusy_next h; rfl
  | dump =>
    obtain ⟨-, dir, -, rfl⟩ := exec_dump_next h
    exact logDump_params s _
  | poll =>
    obtain ⟨-, ⟨-, rfl⟩ | ⟨b, rest, -, hbyte⟩⟩ := exec_poll_next h
    · exact guard_params s
    · exact (byteStep_next_params hbyte).trans (guard_params s)

/-- Settles O56: by the cases of `step_cases`, with `exec_next_params` for a command. -/
theorem parametersAreFixed : Obligations.ParametersAreFixed := by
  intro s t h
  rcases step_cases h with ⟨-, rfl⟩ | ⟨_, _, -, rfl⟩ | ⟨_, _, -, rfl⟩ | ⟨_, _, -, rfl⟩ | ⟨_, _, _, -, -, rfl⟩ |
    ⟨_, _, _, -, -, rfl⟩ | ⟨_, _, _, -, -, rfl⟩ | ⟨_, _, _, _, -, -, rfl⟩ | ⟨_, _, _, _, -, -, -, hcommand⟩
  -- The last case, a write to CMD, runs a command; the others write out a next state with `params` as it was.
  on_goal 9 => exact (exec_next_params hcommand).trans rfl
  all_goals rfl

/-! ## The state right after reset (70_reset_and_hazards.md R230) -/

/-- STATUS with all three of its flags clear (10_state.md R35). -/
theorem statusByte_eq_zero {s : State} (hb : s.busy = false) (hi : s.inited = false) (hd : s.debug = false) :
    s.statusByte = 0 := by
  simp [State.statusByte, flagByte, hb, hi, hd]

/-- Settles O13: each element is the literal that `State.resetWith` gives it, so STATUS is the byte of three clear flags. -/
theorem resetValues : Obligations.ResetValues := by
  refine ⟨fun p txb rxb txd outd q clk => ?_, ⟨_, _, _, _, _, _, rfl⟩, rfl, rfl, rfl⟩
  have hstatus : (State.resetWith p txb rxb txd outd q clk).statusByte = 0 := statusByte_eq_zero rfl rfl rfl
  exact ⟨rfl, rfl, rfl, rfl, rfl, rfl, rfl, rfl, rfl, rfl, rfl, hstatus, rfl, rfl, rfl, rfl⟩

end Sys2Proof.Machine

namespace Sys2Proof.Machine

/-! ## The opcode map and the register map, read backwards (30_encoding.md R83, 20_memory.md R55) -/

/-- Only a command's own opcode decodes to it. -/
theorem eq_opcode_of_decode {op : Byte} {i : Instr} (h : decode op = .ok i) : op = i.opcode := by
  unfold decode at h
  split at h <;> cases h <;> exact BitVec.eq_of_toNat_eq ‹_›

/-- Only a register's own offset leads to it. -/
theorem eq_offset_of_atOffset {off : Byte} {r : Reg} (h : Reg.atOffset off = some r) : off = r.offset := by
  unfold Reg.atOffset at h
  split at h
  -- Past the six single registers an offset lies in TXDATA, in OUTDATA, or is reserved.
  on_goal 7 =>
    split at h
    · cases h
      apply BitVec.eq_of_toNat_eq
      simp only [Reg.offset, BitVec.toNat_ofNat]
      omega
    · split at h
      · cases h
        apply BitVec.eq_of_toNat_eq
        simp only [Reg.offset, BitVec.toNat_ofNat]
        omega
      · cases h
  all_goals cases h; exact BitVec.eq_of_toNat_eq ‹_›

/-! ## OWNADDR (10_state.md R36) -/

/-- Settles O11: the register map has OWNADDR at 0x05, where a read hands out OWN_ADDR and a write is refused. -/
theorem ownaddrReadsOwnAddr : Obligations.OwnaddrReadsOwnAddr := by
  refine ⟨fun s rest hin => ?_, fun s v rest hin => ?_, rfl⟩
  · rw [step_cons s _ rest hin]; rfl
  · rw [step_cons s _ rest hin]; rfl

/-! ## Who writes DEBUG (10_state.md R25) -/

/-- Taking one byte keeps DEBUG. -/
theorem byteStep_next_debug {restart : Bool} {now : Nat} {b : Byte} {s t : State}
    (h : byteStep restart now b s = .next t) : t.debug = s.debug := by
  rcases byteStep_next h with ⟨-, rfl⟩ | ⟨-, hc, rfl⟩
  · exact idleByte_debug s b now
  · exact checkByte_debug (stored restart now b s hc) b

/-- Every command but INIT keeps DEBUG. -/
theorem exec_next_debug {i : Instr} {s t : State} (hne : i ≠ .init) (h : exec i s = .next t) : t.debug = s.debug := by
  cases i with
  | init => exact absurd rfl hne
  | send => obtain ⟨-, rfl | rfl | rfl | ⟨-, rfl⟩ | ⟨-, -, rfl⟩⟩ := exec_send_next h <;> rfl
  | isBusy => obtain ⟨-, rfl⟩ := exec_isBusy_next h; rfl
  | dump =>
    obtain ⟨-, dir, -, rfl⟩ := exec_dump_next h
    exact logDump_debug s _
  | poll =>
    obtain ⟨-, ⟨-, rfl⟩ | ⟨b, rest, -, hbyte⟩⟩ := exec_poll_next h
    · exact guard_debug s
    · exact (byteStep_next_debug hbyte).trans (guard_debug s)

/-- A step that changes DEBUG is the host's write of INIT's opcode, 0x01, to CMD, offset 0x00. -/
theorem step_next_debug_ne {s t : State} (h : step s = .next t) (hne : t.debug ≠ s.debug) :
    ∃ rest, s.inputs = .access (.write 0x00 1 0x01) :: rest := by
  rcases step_cases h with ⟨-, rfl⟩ | ⟨_, _, -, rfl⟩ | ⟨_, _, -, rfl⟩ | ⟨_, _, -, rfl⟩ | ⟨_, _, _, -, -, rfl⟩ |
    ⟨_, _, _, -, -, rfl⟩ | ⟨_, _, _, -, -, rfl⟩ | ⟨_, _, _, _, -, -, rfl⟩ |
    ⟨off, op, i, rest, hin, hoff, hop, hcommand⟩
  -- The last case, a write to CMD, runs a command; the others write out a next state with `debug` as it was.
  on_goal 9 =>
    have hinit : i = .init := by
      by_contra hother
      exact hne ((exec_next_debug hother hcommand).trans rfl)
    subst hinit
    exact ⟨rest, by rw [hin, eq_offset_of_atOffset hoff, eq_opcode_of_decode hop]; rfl⟩
  all_goals exact absurd rfl hne

/-! ## With DEBUG = 0 no command emits a line (10_state.md R25, 60_exceptions.md R216) -/

section Silent

variable {s : State} (hd : s.debug = false)
include hd

theorem guard_logout_silent : s.guard.logout = s.logout := by
  rcases guard_cases s with ⟨-, e⟩ | ⟨-, -, e⟩ <;> simp [e, hd]

theorem logDump_silent (buf : Vector Byte Config.maxFrame) : s.logDump buf = s := by
  simp [State.logDump, hd]

theorem route_logout_silent (len : Byte) : (s.route len).logout = s.logout := by
  rcases route_cases s len with ⟨-, -, e⟩ | ⟨-, -, e⟩ | ⟨-, -, e⟩ | ⟨-, -, -, e⟩ | ⟨-, -, -, e⟩ <;> simp [e, hd]

theorem completeFrame_logout_silent : s.completeFrame.logout = s.logout := by
  rcases completeFrame_cases s with ⟨-, e⟩ | ⟨-, e⟩
  · simp [e, hd]
  · have hlog : (s.log .validPackage).debug = false := hd
    rw [e, route_logout_silent hlog]
    simp [hd]

theorem checkByte_logout_silent (b : Byte) : (s.checkByte b).logout = s.logout := by
  rcases checkByte_cases s b with ⟨-, -, e⟩ | ⟨-, e⟩ | ⟨-, -, e⟩ | ⟨-, e⟩ | ⟨-, -, -, -, e⟩ <;>
    simp [e, hd, completeFrame_logout_silent hd]

theorem idleByte_logout_silent (now : Nat) (b : Byte) : (s.idleByte now b).logout = s.logout := by
  unfold State.idleByte
  split <;> simp [hd]

theorem byteStep_next_logout_silent {restart : Bool} {now : Nat} {b : Byte} {t : State}
    (h : byteStep restart now b s = .next t) : t.logout = s.logout := by
  rcases byteStep_next h with ⟨-, rfl⟩ | ⟨-, hc, rfl⟩
  · exact idleByte_logout_silent hd now b
  · exact checkByte_logout_silent (s := stored restart now b s hc) hd b

theorem exec_next_logout_silent {i : Instr} {t : State} (h : exec i s = .next t) : t.logout = s.logout := by
  cases i with
  | init => obtain ⟨-, -, ⟨-, rfl⟩ | ⟨-, rfl⟩⟩ := exec_init_next h <;> rfl
  | send => obtain ⟨-, rfl | rfl | rfl | ⟨-, rfl⟩ | ⟨-, -, rfl⟩⟩ := exec_send_next h <;> simp [hd]
  | isBusy => obtain ⟨-, rfl⟩ := exec_isBusy_next h; rfl
  | dump =>
    obtain ⟨-, dir, -, rfl⟩ := exec_dump_next h
    rw [logDump_silent hd]
  | poll =>
    obtain ⟨-, ⟨-, rfl⟩ | ⟨b, rest, -, hbyte⟩⟩ := exec_poll_next h
    · exact guard_logout_silent hd
    · have hdebug : ({ s.guard with rxq := rest } : State).debug = false := (guard_debug s).trans hd
      exact (byteStep_next_logout_silent hdebug hbyte).trans (guard_logout_silent hd)

end Silent

/-! ## DEBUG changes no output but the log (10_state.md R25)

`State.forgetLog` commutes with every operation of the machine: none of them looks at DEBUG, LOGOUT or the draw counter
except to write the log, which `State.forgetLog` takes away again. -/

section ForgetLog

variable (s : State)

theorem forgetLog_log (t : Tag) : (s.log t).forgetLog = s.forgetLog := rfl

theorem log_forgetLog (t : Tag) : s.forgetLog.log t = s.forgetLog := rfl

theorem forgetLog_setResult (v : Byte) : (s.setResult v).forgetLog = s.forgetLog.setResult v := rfl

theorem forgetLog_transmit : s.transmit.forgetLog = s.forgetLog.transmit := by
  have hframe : s.forgetLog.sendFrame = s.sendFrame := rfl
  have hlen : s.forgetLog.sendLen = s.sendLen := rfl
  simp only [State.transmit, hframe, hlen]
  simp only [State.forgetLog, State.txWriteAll]

theorem forgetLog_logDump (buf : Vector Byte Config.maxFrame) : (s.logDump buf).forgetLog = s.forgetLog := by
  unfold State.logDump
  split <;> rfl

theorem forgetLog_guard : s.guard.forgetLog = s.forgetLog.guard :=
  apply_ite State.forgetLog _ _ _

theorem forgetLog_classify : s.classify.forgetLog = s.forgetLog.classify := by
  unfold State.classify
  simp only [apply_ite State.forgetLog]
  rfl

theorem forgetLog_route (len : Byte) : (s.route len).forgetLog = s.forgetLog.route len := by
  unfold State.route
  simp only [apply_ite State.forgetLog]
  rfl

theorem forgetLog_completeFrame : s.completeFrame.forgetLog = s.forgetLog.completeFrame := by
  unfold State.completeFrame
  simp only [apply_ite State.forgetLog, forgetLog_route]
  rfl

theorem forgetLog_checkByte (b : Byte) : (s.checkByte b).forgetLog = s.forgetLog.checkByte b := by
  have hclassify : (s.classify.setResult 0).forgetLog = s.forgetLog.classify.setResult 0 :=
    congrArg (State.setResult · 0) (forgetLog_classify s)
  unfold State.checkByte
  simp only [apply_ite State.forgetLog, forgetLog_completeFrame, hclassify]
  rfl

theorem forgetLog_idleByte (now : Nat) (b : Byte) : (s.idleByte now b).forgetLog = s.forgetLog.idleByte now b :=
  apply_ite State.forgetLog _ _ _

theorem mapNext_forgetLog_byteStep (restart : Bool) (now : Nat) (b : Byte) :
    mapNext State.forgetLog (byteStep restart now b s) = byteStep restart now b s.forgetLog := by
  cases hb : s.busy with
  | false =>
    rw [byteStep_idle _ _ _ s hb, byteStep_idle _ _ _ s.forgetLog hb, mapNext_next, forgetLog_idleByte]
  | true =>
    by_cases hc : s.cursor.val + 1 < Config.maxFrame
    · rw [byteStep_inFrame _ _ _ s hb hc, byteStep_inFrame _ _ _ s.forgetLog hb hc, mapNext_next, forgetLog_checkByte]
      rfl
    · have hfault : ∀ u : State, u.busy = true → u.cursor = s.cursor →
          byteStep restart now b u = .fault .cursorPastBuffer := by
        intro u hu hcursor
        rw [byteStep, if_pos hu, inFrameByte, dif_neg (hcursor ▸ hc)]
      rw [hfault s hb rfl, hfault s.forgetLog hb rfl, mapNext_fault]

theorem mapNext_forgetLog_poll (restart : Bool) :
    mapNext State.forgetLog (poll restart s) = poll restart s.forgetLog := by
  cases hq : s.rxq with
  | nil =>
    rw [poll_noByte restart s hq, poll_noByte restart s.forgetLog hq, ← forgetLog_guard]
    rfl
  | cons b rest =>
    rw [poll_byte restart s b rest hq, poll_byte restart s.forgetLog b rest hq, mapNext_forgetLog_byteStep,
      ← forgetLog_guard]
    rfl

/-- Commuting with a meaning behind the gate is enough for commuting with the gated meaning, since the gate reads INITED
only. -/
theorem mapNext_forgetLog_whenInitialised {k k' : Result} (h : mapNext State.forgetLog k = k') :
    mapNext State.forgetLog (whenInitialised s k) = whenInitialised s.forgetLog k' := by
  cases hi : s.inited with
  | false => rw [whenInitialised_false s k hi, whenInitialised_false s.forgetLog k' hi, mapNext_refused]
  | true => rw [whenInitialised_true s k hi, whenInitialised_true s.forgetLog k' hi, h]

/-- A command but INIT, on a state without the log, answers what it answers on the state, without the log. -/
theorem mapNext_forgetLog_exec {i : Instr} (hne : i ≠ .init) :
    mapNext State.forgetLog (exec i s) = exec i s.forgetLog := by
  cases i with
  | init => exact absurd rfl hne
  | send =>
    refine mapNext_forgetLog_whenInitialised s ?_
    simp only [apply_ite (mapNext State.forgetLog), mapNext_next, forgetLog_setResult, forgetLog_transmit, forgetLog_log,
      log_forgetLog]
    rfl
  | isBusy => exact mapNext_forgetLog_whenInitialised s rfl
  | dump =>
    refine mapNext_forgetLog_whenInitialised s ?_
    have hdir : s.forgetLog.dumpDirection = s.dumpDirection := rfl
    rw [hdir]
    cases s.dumpDirection with
    | none => rfl
    | some dir => exact congrArg Host.Outcome.next (forgetLog_logDump s _)
  | poll => exact mapNext_forgetLog_whenInitialised s (mapNext_forgetLog_poll s _)

/-- INIT writes DEBUG from ARG1 and reads neither the log nor the DEBUG before it. -/
theorem mapNext_forgetLog_exec_init :
    mapNext State.forgetLog (exec .init s) = mapNext State.forgetLog (exec .init s.forgetLog) := by
  simp only [exec, execInit, apply_ite (mapNext State.forgetLog), mapNext_next, mapNext_refused]
  rfl

/-- What a command does to the state without the log depends on the state without the log alone. -/
theorem mapNext_forgetLog_exec_congr (i : Instr) :
    mapNext State.forgetLog (exec i s) = mapNext State.forgetLog (exec i s.forgetLog) := by
  by_cases hinit : i = .init
  · subst hinit
    exact mapNext_forgetLog_exec_init s
  · calc mapNext State.forgetLog (exec i s)
        = exec i s.forgetLog := mapNext_forgetLog_exec s hinit
      _ = mapNext State.forgetLog (exec i s.forgetLog) := (mapNext_forgetLog_exec s.forgetLog hinit).symm

end ForgetLog

/-- Settles O48: two states that differ in DEBUG only are one state without the log, so `mapNext_forgetLog_exec_congr` takes
both commands to the same outcome. -/
theorem debugChangesOnlyTheLog : Obligations.DebugChangesOnlyTheLog := by
  refine ⟨fun _ _ _ hne h => exec_next_debug hne h, fun _ _ h hne => step_next_debug_ne h hne,
    fun _ _ _ hd h => exec_next_logout_silent hd h, fun i s d => ?_⟩
  rw [mapNext_forgetLog_exec_congr { s with debug := d }, mapNext_forgetLog_exec_congr s]
  rfl

end Sys2Proof.Machine

namespace Sys2Proof.Machine

/-! ## The events of the environment (20_memory.md R63) -/

/-- Settles O12: a step hands each event to its operation, and the laws of `State.arrive` and `State.lose` say what a full
queue and one with room do. -/
theorem environmentEvents : Obligations.EnvironmentEvents := by
  refine ⟨fun s b rest hin hroom => ?arriveRoom, fun s b rest hin hfull => ?arriveFull, fun s c rest hin => ?clock,
    fun s lost rest hin hfull => ?loseFull, fun s lost rest hin hroom => ?loseRoom, step_nil⟩
  all_goals rw [step_cons s _ rest hin]
  case arriveRoom => exact congrArg Host.Outcome.next (arrive_notFull { s with inputs := rest } b hroom)
  case arriveFull => exact congrArg Host.Outcome.next (arrive_full { s with inputs := rest } b hfull)
  case clock => rfl
  case loseFull => exact congrArg Host.Outcome.next (lose_full { s with inputs := rest } lost hfull)
  case loseRoom => exact congrArg Host.Outcome.next (lose_notFull { s with inputs := rest } lost hroom)

/-! ## Who changes RXQ (20_memory.md R63, 41_receive.md R147) -/

/-- A byte in hand is stepped without another look at the queue. -/
theorem byteStep_next_rxq {restart : Bool} {now : Nat} {b : Byte} {s t : State}
    (h : byteStep restart now b s = .next t) : t.rxq = s.rxq := by
  rcases byteStep_next h with ⟨-, rfl⟩ | ⟨-, hc, rfl⟩
  · exact idleByte_rxq s b now
  · exact checkByte_rxq (stored restart now b s hc) b

/-- POLL takes the oldest byte, if there is one, and no other (R147). -/
theorem exec_poll_next_rxq {s t : State} (h : exec .poll s = .next t) : t.rxq = s.rxq.tail := by
  obtain ⟨-, ⟨hempty, rfl⟩ | ⟨b, rest, hcons, hbyte⟩⟩ := exec_poll_next h
  · simp [hempty]
  · rw [byteStep_next_rxq hbyte, hcons, List.tail_cons]

/-- Every command but POLL keeps RXQ. -/
theorem exec_next_rxq {i : Instr} {s t : State} (hne : i ≠ .poll) (h : exec i s = .next t) : t.rxq = s.rxq := by
  cases i with
  | init => obtain ⟨-, -, ⟨-, rfl⟩ | ⟨-, rfl⟩⟩ := exec_init_next h <;> rfl
  | send => obtain ⟨-, rfl | rfl | rfl | ⟨-, rfl⟩ | ⟨-, -, rfl⟩⟩ := exec_send_next h <;> rfl
  | isBusy => obtain ⟨-, rfl⟩ := exec_isBusy_next h; rfl
  | dump =>
    obtain ⟨-, dir, -, rfl⟩ := exec_dump_next h
    exact logDump_rxq s _
  | poll => exact absurd rfl hne

/-- Everything a step can do to RXQ: keep it, let a byte arrive, lose bytes, or, on the host's write of POLL's opcode, 0x03,
to CMD, offset 0x00, take the oldest byte. -/
theorem step_next_rxq {s t : State} (h : step s = .next t) :
    t.rxq = s.rxq ∨ (∃ b, t.rxq = (s.arrive b).rxq) ∨ (∃ lost, t.rxq = (s.lose lost).rxq) ∨
    ((∃ rest, s.inputs = .access (.write 0x00 1 0x03) :: rest) ∧ t.rxq = s.rxq.tail) := by
  rcases step_cases h with ⟨-, rfl⟩ | ⟨b, _, -, rfl⟩ | ⟨lost, _, -, rfl⟩ | ⟨_, _, -, rfl⟩ | ⟨_, _, _, -, -, rfl⟩ |
    ⟨_, _, _, -, -, rfl⟩ | ⟨_, _, _, -, -, rfl⟩ | ⟨_, _, _, _, -, -, rfl⟩ |
    ⟨off, op, i, rest, hin, hoff, hop, hcommand⟩
  -- A write to CMD, a loss and an arrival may change the queue; the other cases write out `rxq` as it was.
  on_goal 9 =>
    by_cases hpoll : i = .poll
    · subst hpoll
      have hwrite : s.inputs = .access (.write 0x00 1 0x03) :: rest := by
        rw [hin, eq_offset_of_atOffset hoff, eq_opcode_of_decode hop]; rfl
      exact .inr (.inr (.inr ⟨⟨rest, hwrite⟩, (exec_poll_next_rxq hcommand).trans rfl⟩))
    · exact .inl ((exec_next_rxq hpoll hcommand).trans rfl)
  on_goal 3 => exact .inr (.inr (.inl ⟨lost, rfl⟩))
  on_goal 2 => exact .inr (.inl ⟨b, rfl⟩)
  all_goals exact .inl rfl

/-- A loss never makes the queue longer. -/
theorem lose_length_le (s : State) (lost : List Nat) : (s.lose lost).rxq.length ≤ s.rxq.length := by
  by_cases hfull : s.QueueFull
  · rw [lose_full s lost hfull]
    exact (dropAt_sublist lost s.rxq).length_le
  · rw [lose_notFull s lost hfull]

/-- With room in RXQ, a step adds at most one byte at its end or is a POLL that takes the oldest (R63, R147). -/
theorem step_next_rxq_of_room {s t : State} (h : step s = .next t) (hroom : ¬s.QueueFull) :
    (∃ more : List Byte, more.length ≤ 1 ∧ t.rxq = s.rxq ++ more) ∨
    ((∃ rest, s.inputs = .access (.write 0x00 1 0x03) :: rest) ∧ t.rxq = s.rxq.tail) := by
  have hsame {q : List Byte} (hq : q = s.rxq) : ∃ more : List Byte, more.length ≤ 1 ∧ q = s.rxq ++ more :=
    ⟨[], Nat.zero_le 1, by rw [hq, List.append_nil]⟩
  rcases step_next_rxq h with hkept | ⟨b, harrived⟩ | ⟨lost, hlost⟩ | hpoll
  · exact .inl (hsame hkept)
  · rw [arrive_notFull s b hroom] at harrived
    exact .inl ⟨[b], Nat.le_refl 1, harrived⟩
  · rw [lose_notFull s lost hroom] at hlost
    exact .inl (hsame hlost)
  · exact .inr hpoll

/-- No step takes RXQ past its capacity (R8, D25): only an arrival makes it longer. -/
theorem step_next_rxq_length_le {s t : State} {depth : Nat} (h : step s = .next t)
    (hdepth : s.params.rxqDepth = some depth) (hfits : s.rxq.length ≤ depth) : t.rxq.length ≤ depth := by
  rcases step_next_rxq h with hkept | ⟨b, harrived⟩ | ⟨lost, hlost⟩ | ⟨-, htaken⟩
  · rwa [hkept]
  · rw [harrived]
    exact arrive_length_le s b depth hdepth hfits
  · rw [hlost]
    exact (lose_length_le s lost).trans hfits
  · rw [htaken]
    exact (List.tail_sublist s.rxq).length_le.trans hfits

/-- Settles O57: both clauses by the four cases of `step_next_rxq`. -/
theorem onlyPollTakesFromQueue : Obligations.OnlyPollTakesFromQueue :=
  ⟨fun _ _ h hroom => step_next_rxq_of_room h hroom,
    fun _ _ _ h hdepth hfits => step_next_rxq_length_le h hdepth hfits⟩

end Sys2Proof.Machine

namespace Sys2Proof.Machine

/-! ## SEND's log (40_send.md R117), in the words of `State.logAfter` -/

theorem log_eq_logAfter (s : State) (t : Tag) : s.log t = { s with logout := s.logAfter [t] } := rfl

theorem log_log_eq_logAfter (s : State) (t u : Tag) :
    (s.log t).log u = { s with logout := s.logAfter [t, u] } := by
  cases hd : s.debug <;> simp [State.log, State.logAfter, hd]

/-! ## The frame SEND transmits (40_send.md R113, R114) -/

theorem sendFrame_eq_frame (s : State) :
    s.sendFrame = frame s.arg0 s.ownAddr s.arg1 (s.txdata.toList.take s.arg1.toNat) := by
  rw [State.sendFrame, State.sendPayload, bytesFrom_zero]
  rfl

theorem sendFrame_length {s : State} (hlen : s.sendLen ≤ 20) : s.sendFrame.length = 6 + s.sendLen := by
  have hfits : 0 + s.sendLen ≤ 20 := by rwa [Nat.zero_add]
  rw [State.sendFrame, frame_length, State.sendPayload, bytesFrom_length _ _ _ hfits]

/-- The frame fits in TXBUF, so what SEND reads back from TXBUF to transmit is the frame. -/
theorem transmit_eq {s : State} (hlen : s.sendLen ≤ 20) :
    s.transmit = { s with
      busy := false, txbuf := storeFrom s.txbuf 0 s.sendFrame, txout := s.txout ++ s.sendFrame } := by
  have hfits : s.sendFrame.length ≤ 26 := by
    rw [sendFrame_length hlen]
    omega
  have hread : bytesFrom (storeFrom s.txbuf 0 s.sendFrame) 0 (6 + s.sendLen) = s.sendFrame := by
    rw [← sendFrame_length hlen]
    exact bytesFrom_storeFrom s.txbuf s.sendFrame hfits
  simp only [State.transmit, State.txWriteAll, hread]

/-! ## The five outcomes of an initialised SEND, in the order of its checks (40_send.md R111) -/

section SendOutcomes

variable {s : State} (hi : s.inited = true)
include hi

theorem exec_send_of_long (hlen : 20 < s.sendLen) :
    exec .send s = .next { s with result := 0xFF, logout := s.logAfter [.startSending, .lengthErr] } := by
  rw [exec_send s hi, if_pos hlen, log_log_eq_logAfter]
  rfl

variable (hlen : s.sendLen ≤ 20)
include hlen

theorem exec_send_of_illegal (haddr : addrLegal s.sendDest = false) :
    exec .send s = .next { s with result := 0xFE, logout := s.logAfter [.startSending, .addrErr] } := by
  rw [exec_send s hi, if_neg (Nat.not_lt.2 hlen), if_pos haddr, log_log_eq_logAfter]
  rfl

variable (haddr : addrLegal s.sendDest = true)
include haddr

theorem exec_send_of_self (hown : s.sendDest = s.ownAddr) (hbcast : s.sendDest ≠ 0x01) :
    exec .send s = .next { s with result := 0xFD, logout := s.logAfter [.startSending, .sameAddrErr] } := by
  rw [exec_send s hi, if_neg (Nat.not_lt.2 hlen), if_neg (by simp [haddr]), if_pos ⟨hown, hbcast⟩,
    log_log_eq_logAfter]
  rfl

variable (hdest : s.sendDest ≠ s.ownAddr ∨ s.sendDest = 0x01)
include hdest

/-- With valid operands BUSY decides. -/
theorem exec_send_of_valid : exec .send s =
    if s.busy then .next ((s.log .startSending).setResult Config.busyResult)
    else .next ((s.log .startSending).transmit.setResult 0x00) := by
  have hself : ¬(s.sendDest = s.ownAddr ∧ s.sendDest ≠ 0x01) := by
    rintro ⟨hown, hbcast⟩
    exact hdest.elim (absurd hown) hbcast
  rw [exec_send s hi, if_neg (Nat.not_lt.2 hlen), if_neg (by simp [haddr]), if_neg hself]

theorem exec_send_of_busy (hb : s.busy = true) :
    exec .send s = .next { s with result := Config.busyResult, logout := s.logAfter [.startSending] } := by
  rw [exec_send_of_valid hi hlen haddr hdest, if_pos hb]
  rfl

theorem exec_send_of_idle (hb : s.busy = false) :
    exec .send s = .next { s with
      txbuf := storeFrom s.txbuf 0 s.sendFrame, txout := s.txout ++ s.sendFrame, busy := false, result := 0x00,
      logout := s.logAfter [.startSending] } := by
  have hlog : (s.log .startSending).sendLen ≤ 20 := hlen
  have hframe : (s.log .startSending).sendFrame = s.sendFrame := rfl
  rw [exec_send_of_valid hi hlen haddr hdest, if_neg (by simp [hb]), transmit_eq hlog, hframe]
  simp only [State.setResult, log_eq_logAfter]

end SendOutcomes

/-- Settles O18: the operands pass the checks and the link is idle, so `exec_send_of_idle` gives the next state, and
`storeFrom_getElem` the cells of TXBUF. -/
theorem sendTransmitsFrame : Obligations.SendTransmitsFrame := by
  intro s hi hlen hlo hhi hdest hb body sent
  have hsent : sent = s.sendFrame := (sendFrame_eq_frame s).symm
  clear_value sent
  subst hsent
  refine ⟨sendFrame_length hlen, storeFrom s.txbuf 0 s.sendFrame, fun i h => ?_,
    exec_send_of_idle hi hlen ((addrLegal_iff _).2 ⟨hlo, hhi⟩) hdest hb⟩
  simp [storeFrom_getElem s.sendFrame s.txbuf 0 i h]

/-- Settles O19: one outcome of SEND for each check, in the order of the checks. -/
theorem sendRejections : Obligations.SendRejections :=
  ⟨fun _ hi hlong => exec_send_of_long hi hlong,
    fun _ hi hlen haddr => exec_send_of_illegal hi hlen ((addrLegal_false_iff _).2 haddr),
    fun _ hi hlen hlo hhi hown hbcast => exec_send_of_self hi hlen ((addrLegal_iff _).2 ⟨hlo, hhi⟩) hown hbcast,
    fun _ hi hlen hlo hhi hdest hb => exec_send_of_busy hi hlen ((addrLegal_iff _).2 ⟨hlo, hhi⟩) hdest hb⟩

end Sys2Proof.Machine

namespace Sys2Proof.Machine

/-! ## The timeout condition (41_receive.md R131) as a range of the unsigned difference -/

/-- A signed difference is above a bound exactly when the unsigned one is above it and in the lower half of its range. -/
theorem lt_bmod_iff {x : Int} {c m : Nat} (hm : 0 < m) :
    (c : Int) < x.bmod m ↔ (c : Int) < x % m ∧ 2 * (x % m) < m := by
  have hlo : 0 ≤ x % m := Int.emod_nonneg x (by omega)
  have hhi : x % m < m := Int.emod_lt_of_pos x (by omega)
  rw [Int.bmod_def]
  split <;> omega

theorem timedOut_iff_range (s : State) : s.timedOut = true ↔ s.busy = true ∧
    100 < ((s.clock : Int) - s.ts) % 2 ^ s.params.timeWidth ∧
    2 * (((s.clock : Int) - s.ts) % 2 ^ s.params.timeWidth) < 2 ^ s.params.timeWidth := by
  have hrange := lt_bmod_iff (x := (s.clock : Int) - s.ts) (c := 100) (Nat.two_pow_pos s.params.timeWidth)
  push_cast at hrange
  rw [timedOut_iff, hrange]

/-- On a clock that wraps around, `n` units after TS the unsigned difference is `n`, modulo the clock's range. -/
theorem clock_sub_ts_emod {s : State} {n : Nat} (h : s.clock = (s.ts + n) % 2 ^ s.params.timeWidth) :
    ((s.clock : Int) - s.ts) % 2 ^ s.params.timeWidth = n % 2 ^ s.params.timeWidth := by
  rw [h]
  push_cast
  rw [Int.emod_sub_emod, add_sub_cancel_left]

/-- Settles O25: `timedOut_iff_range` is the condition as a range, which 100 is outside of for every width and 101 inside
of once the clock's range is at least 256. -/
theorem timeoutThreshold : Obligations.TimeoutThreshold := by
  refine ⟨timedOut_iff, fun s hb => ?range, fun s h100 => ?at100, fun s hb hw h101 => ?at101⟩
  case range => rw [timedOut_iff_range, and_iff_right hb]
  case at100 =>
    have hle : ((100 : Nat) : Int) % 2 ^ s.params.timeWidth ≤ 100 := mod_cast Nat.mod_le 100 (2 ^ s.params.timeWidth)
    have hdiff := clock_sub_ts_emod h100
    rw [← Bool.not_eq_true, timedOut_iff_range, hdiff]
    exact fun ⟨_, hgt, _⟩ => absurd hgt (not_lt.2 hle)
  case at101 =>
    have hwide : (2 : Int) ^ 8 ≤ 2 ^ s.params.timeWidth := pow_le_pow_right₀ (by norm_num) hw
    have hdiff := clock_sub_ts_emod h101
    have hmod : ((101 : Nat) : Int) % 2 ^ s.params.timeWidth = 101 := Int.emod_eq_of_lt (by norm_num) (by omega)
    rw [timedOut_iff_range, hdiff, hmod]
    exact ⟨hb, by omega, by omega⟩

/-! ## An idle POLL (41_receive.md R134) -/

/-- Settles O28: POLL hands the byte to `State.idleByte`, whose two branches are the two clauses. -/
theorem pollIdleByte : Obligations.PollIdleByte := by
  refine ⟨fun s b rest hi hb hq hne => ?_, fun s rest hi hb hq => ?_⟩
  · rw [exec_poll_idle s b rest hi hb hq, State.idleByte, if_pos hne]
    rfl
  · rw [exec_poll_idle s _ rest hi hb hq, State.idleByte, if_neg (not_not.2 rfl)]
    rfl

/-! ## A POLL that takes a byte of a frame in progress, in time (41_receive.md R135) -/

/-- The state once POLL has taken `b` off RXQ and stored it, with CURSOR at `k` before, and not yet checked it (R135, R147). -/
abbrev State.received (s : State) (b : Byte) (rest : List Byte) {k : Nat} (h : k + 1 < 26) : State :=
  { s with rxq := rest, rxbuf := s.rxbuf.set (k + 1) b h, ts := s.tsAfterByte, cursor := ⟨k + 1, h⟩ }

theorem exec_poll_received {s : State} {b : Byte} {rest : List Byte} {k : Nat} (hi : s.inited = true)
    (hb : s.busy = true) (ht : s.inTime) (hq : s.rxq = b :: rest) (hc : s.cursor.val = k) (h : k + 1 < 26) :
    exec .poll s = .next ((s.received b rest h).checkByte b) := by
  subst hc
  exact exec_poll_inFrame s b rest hi hb ht hq h

/-- Settles O29: the check at cursor 1 on the byte just stored. -/
theorem pollSecondMarker : Obligations.PollSecondMarker := by
  intro s b rest hi hb ht hc hq
  rw [exec_poll_received hi hb ht hq hc (by decide)]
  refine ⟨fun hne => ?_, fun heq => ?_⟩
  · rw [checkByte_marker2_bad _ b rfl hne]
    rfl
  · rw [checkByte_marker2_good _ b rfl heq]
    rfl

/-- Settles O32: the check at cursor 4 on the byte just stored. -/
theorem pollLengthByte : Obligations.PollLengthByte := by
  intro s b rest hi hb ht hc hq
  rw [exec_poll_received hi hb ht hq hc (by decide)]
  refine ⟨fun hlong => ?_, fun hfits => ?_⟩
  · rw [checkByte_len_bad _ b rfl hlong]
    rfl
  · rw [checkByte_len_good _ b rfl hfits]
    rfl

/-- Settles O42: no check writes TS, so it is what the storing of the byte made it. -/
theorem restartTimerDecidesTimestamp : Obligations.RestartTimerDecidesTimestamp := by
  intro s b rest hi hb ht hc hq
  exact ⟨_, exec_poll_received hi hb ht hq rfl (by omega), checkByte_ts _ b⟩

/-- The classification (R137), with both flags written out. -/
theorem classify_eq (s : State) : s.classify = { s with
    isBcast := if s.rxDest = 0x01 ∧ s.rxSrc = 0x01 then true else s.isBcast
    isBypass := if ¬(s.rxDest = 0x01 ∧ s.rxSrc = 0x01) ∧ s.rxDest ≠ s.ownAddr then true else s.isBypass } := by
  unfold State.classify
  by_cases hbcast : s.rxDest = 0x01 ∧ s.rxSrc = 0x01
  · rw [if_pos hbcast, if_pos hbcast, if_neg (fun ⟨hnot, _⟩ => hnot hbcast)]
  · by_cases hother : s.rxDest = s.ownAddr
    · rw [if_neg hbcast, if_neg hbcast, if_neg (not_not.2 hother), if_neg (fun ⟨_, hnot⟩ => hnot hother)]
    · rw [if_neg hbcast, if_neg hbcast, if_pos hother, if_pos ⟨hbcast, hother⟩]

/-- Settles O31: the check at cursor 3 classifies the frame by DEST, stored before, and SRC, the byte just stored. -/
theorem pollClassifiesFrame : Obligations.PollClassifiesFrame := by
  intro s src rest hi hb ht hc hq
  have hdest : (s.received src rest (k := 2) (by decide)).rxDest = s.rxDest := by simp [State.rxDest]
  have hsrc : (s.received src rest (k := 2) (by decide)).rxSrc = src := by simp [State.rxSrc]
  rw [exec_poll_received hi hb ht hq hc (by decide), checkByte_src _ src rfl, classify_eq, hdest, hsrc]
  rfl

/-! ## The payload and the checksum byte (41_receive.md R139, R140)

Both are stored above SRC and L and above every byte before them that the checksum is over, so the checks see these as they
stood before the POLL. -/

/-- The check for the frame's last byte reads L after the byte is stored, the statements read it before. The two differ when
the byte is L itself, and then neither holds. -/
theorem received_cursor_eq_iff {s : State} {b : Byte} {rest : List Byte} (h : s.cursor.val + 1 < 26) :
    (s.received b rest h).cursor.val = 5 + (s.received b rest h).rxLen ↔ s.cursor.val = 4 + s.rxLen := by
  by_cases hlen : s.cursor.val + 1 = 4
  · simp only [State.rxLen]
    omega
  · simp only [State.rxLen, Vector.getElem_set_ne (h := hlen)]
    omega

/-- Storing the checksum byte leaves L and the bytes it is compared with as they were. -/
theorem received_last {s : State} (b : Byte) (rest : List Byte) (h : s.cursor.val + 1 < 26)
    (hc : s.cursor.val = 4 + s.rxLen) :
    (s.received b rest h).rxbuf[4] = s.rxbuf[4] ∧
    (s.received b rest h).rxbuf.toList.take (5 + (s.received b rest h).rxLen) = s.rxbuf.toList.take (5 + s.rxLen) ∧
    (s.received b rest h).rxbuf[(s.received b rest h).cursor] = b := by
  obtain ⟨hlen, hbyte, -, htake, hlast, -⟩ :=
    stored_last { s with rxq := rest } b s.clock s.params.restartTimerPerByte h hc
  refine ⟨hbyte, ?_, hlast⟩
  rw [show (s.received b rest h).rxLen = s.rxLen from hlen]
  exact htake

/-- So does it leave SRC, by which the frame is routed once it is logged. -/
theorem received_log_rxSrc {s : State} (b : Byte) (rest : List Byte) (h : s.cursor.val + 1 < 26)
    (hc : s.cursor.val = 4 + s.rxLen) (t : Tag) : ((s.received b rest h).log t).rxSrc = s.rxSrc :=
  Vector.getElem_set_ne h _ (by omega)

section LastByte

variable {s : State} {b : Byte} {rest : List Byte} (h : s.cursor.val + 1 < 26) (hc : s.cursor.val = 4 + s.rxLen)
include hc

/-- A mismatch aborts. -/
theorem checkByte_received_mismatch (hbad : b ≠ chk (s.rxbuf.toList.take (5 + s.rxLen))) :
    (s.received b rest h).checkByte b = ((s.received b rest h).abort .crcFail).setResult 0 := by
  obtain ⟨-, htake, hlast⟩ := received_last b rest h hc
  rw [checkByte_last _ b ((received_cursor_eq_iff h).2 hc)]
  rcases completeFrame_cases (s.received b rest h) with ⟨-, e⟩ | ⟨hgood, -⟩
  · exact e
  · rw [htake, hlast] at hgood
    exact absurd hgood hbad

/-- A match is logged, and the frame routed. -/
theorem checkByte_received_match (hgood : b = chk (s.rxbuf.toList.take (5 + s.rxLen))) :
    (s.received b rest h).checkByte b = ((s.received b rest h).log .validPackage).route s.rxbuf[4] := by
  obtain ⟨hlen, htake, hlast⟩ := received_last b rest h hc
  rw [checkByte_last _ b ((received_cursor_eq_iff h).2 hc)]
  rcases completeFrame_cases (s.received b rest h) with ⟨hbad, -⟩ | ⟨-, e⟩
  · rw [htake, hlast] at hbad
    exact absurd hgood hbad
  · rw [e, hlen]

variable (hi : s.inited = true) (hb : s.busy = true) (ht : s.inTime) (hq : s.rxq = b :: rest)
include hi hb ht hq

/-- POLL with the last byte of a valid frame. -/
theorem exec_poll_match (hgood : b = chk (s.rxbuf.toList.take (5 + s.rxLen))) :
    exec .poll s = .next (((s.received b rest h).log .validPackage).route s.rxbuf[4]) := by
  rw [exec_poll_received hi hb ht hq rfl h, checkByte_received_match h hc hgood]

end LastByte

/-- A payload byte is not checked. -/
theorem checkByte_received_payload {s : State} {b : Byte} {rest : List Byte} (h : s.cursor.val + 1 < 26)
    (hlo : 4 ≤ s.cursor.val) (hhi : s.cursor.val < 4 + s.rxLen) :
    (s.received b rest h).checkByte b = (s.received b rest h).setResult 0 :=
  checkByte_payload _ b (Nat.succ_le_succ hlo) (mt (received_cursor_eq_iff h).1 (Nat.ne_of_lt hhi))

/-- Settles O33: a mismatch at cursor 5 + L aborts, and a payload byte before it is not checked. -/
theorem pollChecksumMismatchAborts : Obligations.PollChecksumMismatchAborts := by
  refine ⟨fun s b rest h hi hb ht hq hc hbad => ?_, fun s b rest h hi hb ht hq hlo hhi => ?_⟩
  · rw [exec_poll_received hi hb ht hq rfl h, checkByte_received_mismatch h hc hbad]
    rfl
  · rw [exec_poll_received hi hb ht hq rfl h, checkByte_received_payload h hlo hhi]
    rfl

/-! ## The rows of the routing table (41_receive.md R141) -/

section Routing

variable {s : State} (len : Byte)

theorem route_own (hsrc : s.rxSrc = s.ownAddr) :
    s.route len = (s.log (if s.isBcast = true then .brCastEnd else .badCycle)).release.setResult 0 := by
  cases hbcast : s.isBcast <;> simp [State.route, hbcast, hsrc]

variable (hsrc : s.rxSrc ≠ s.ownAddr)
include hsrc

theorem route_broadcast (hbcast : s.isBcast = true) :
    s.route len = (((s.log .brCastForward).forward len.toNat).deliver len.toNat).release.setResult len := by
  rw [State.route, if_pos hbcast, if_neg hsrc]

theorem route_bypass (hbcast : s.isBcast = false) (hbypass : s.isBypass = true) :
    s.route len = ((s.log .dataBypass).forward len.toNat).release.setResult 0 := by
  rw [State.route, if_neg (by simp [hbcast]), if_neg hsrc, if_pos hbypass]

theorem route_unicast (hbcast : s.isBcast = false) (hbypass : s.isBypass = false) :
    s.route len = ((s.log .dataRecv).deliver len.toNat).release.setResult len := by
  rw [State.route, if_neg (by simp [hbcast]), if_neg hsrc, if_neg (by simp [hbypass])]

end Routing

/-- Settles O34: the row of R141 for a node's own SRC, with or without IS_BCAST. -/
theorem pollDropsLoopBack : Obligations.PollDropsLoopBack := by
  intro s b rest h hi hb ht hq hc hgood hown
  have hsrc := received_log_rxSrc b rest h hc .validPackage
  rw [exec_poll_match h hc hi hb ht hq hgood, route_own _ (hsrc.trans hown), log_log_eq_logAfter]
  rfl

/-- Settles O35: the row "bypass relay"; the bytes forwarded are those stored before and the checksum byte. -/
theorem pollForwardsBypass : Obligations.PollForwardsBypass := by
  intro s b rest h hi hb ht hq hc hgood hother hbcast hbypass
  have hsrc := received_log_rxSrc b rest h hc .validPackage
  rw [exec_poll_match h hc hi hb ht hq hgood, route_bypass _ (hsrc.trans_ne hother) hbcast hbypass,
    log_log_eq_logAfter, ← bytesFrom_stored_last s b h hc]
  rfl

/-! ## What a delivery puts into OUTDATA and RESULT (41_receive.md R144, R145) -/

theorem deliver_outdata_getElem (s : State) {len : Nat} (hlen : len ≤ 20) (i : Nat) (hi : i < 20) :
    (s.deliver len).outdata[i] =
      if i < len then s.rxbuf[5 + i]'(by change _ < 26; omega) else s.outdata[i] := by
  have hfits : Config.headerLen + len ≤ Config.maxFrame := by change 5 + len ≤ 26; omega
  simp only [State.deliver, storeFrom_getElem, bytesFrom_length _ _ _ hfits, bytesFrom_getElem _ _ _ _ hfits,
    Nat.zero_le, true_and, Nat.sub_zero]
  rfl

/-- The checksum byte stands behind the payload, so it is not delivered. -/
theorem received_deliver_outdata {s : State} (b : Byte) (rest : List Byte) (h : s.cursor.val + 1 < 26)
    (hc : s.cursor.val = 4 + s.rxLen) :
    ((s.received b rest h).deliver s.rxLen).outdata = (s.deliver s.rxLen).outdata :=
  congrArg (storeFrom s.outdata 0) (bytesFrom_set_above s.rxbuf 5 s.rxLen (s.cursor.val + 1) b h (by omega))

theorem ofNat_rxLen (s : State) : BitVec.ofNat 8 s.rxLen = s.rxbuf[4] :=
  (BitVec.ofNat_toNat 8 _).trans (BitVec.setWidth_eq _)

/-- Settles O36: the row "unicast to self", with the cells of OUTDATA by `deliver_outdata_getElem`. -/
theorem pollDeliversUnicast : Obligations.PollDeliversUnicast := by
  intro s b rest h hi hb ht hq hc hgood hother hbcast hbypass
  have hsrc := received_log_rxSrc b rest h hc .validPackage
  refine ⟨(s.deliver s.rxLen).outdata, deliver_outdata_getElem s (by omega), ?_⟩
  rw [exec_poll_match h hc hi hb ht hq hgood, route_unicast _ (hsrc.trans_ne hother) hbcast hbypass,
    log_log_eq_logAfter, ← received_deliver_outdata b rest h hc, ofNat_rxLen]
  rfl

/-- Settles O37: the row "broadcast relay", which forwards as O35 does and delivers as O36 does. -/
theorem pollRelaysBroadcast : Obligations.PollRelaysBroadcast := by
  intro s b rest h hi hb ht hq hc hgood hother hbcast
  have hsrc := received_log_rxSrc b rest h hc .validPackage
  refine ⟨(s.deliver s.rxLen).outdata, deliver_outdata_getElem s (by omega), ?_⟩
  rw [exec_poll_match h hc hi hb ht hq hgood, route_broadcast _ (hsrc.trans_ne hother) hbcast,
    log_log_eq_logAfter, ← received_deliver_outdata b rest h hc, ← bytesFrom_stored_last s b h hc, ofNat_rxLen]
  rfl

/-! ## What POLL writes to RESULT (41_receive.md R145) -/

theorem idleByte_result (s : State) (now : Nat) (b : Byte) : (s.idleByte now b).result = 0 := by
  unfold State.idleByte
  split <;> rfl

/-- Of the five rows of R141 the two that deliver write L. -/
theorem route_result (s : State) (len : Byte) : (s.route len).result =
    if s.rxSrc ≠ s.ownAddr ∧ (s.isBcast = true ∨ s.isBypass = false) then len else 0 := by
  rcases route_cases s len with ⟨hbcast, hsrc, e⟩ | ⟨hbcast, hsrc, e⟩ | ⟨hbcast, hsrc, e⟩ | ⟨hbcast, hsrc, hbypass, e⟩ |
    ⟨hbcast, hsrc, hbypass, e⟩ <;> simp [*]

/-- The checks of any byte but a frame's last write 0. -/
theorem checkByte_result_of_not_last (s : State) (b : Byte) (hc : s.cursor.val ≠ 5 + s.rxLen) :
    (s.checkByte b).result = 0 := by
  rcases checkByte_cases s b with ⟨-, -, e⟩ | ⟨-, e⟩ | ⟨-, -, e⟩ | ⟨hlast, -⟩ | ⟨-, -, -, -, e⟩
  on_goal 4 => exact absurd hlast hc
  all_goals rw [e, setResult_result]

/-- A POLL that takes no in-frame byte, for want of a byte, of a frame, or of time, writes 0; the others store the byte and
check it. -/
theorem exec_poll_next_received {s t : State} (h : exec .poll s = .next t) :
    (∃ b rest, s.busy = true ∧ s.inTime ∧ s.rxq = b :: rest ∧
      ∃ hroom : s.cursor.val + 1 < 26, t = (s.received b rest hroom).checkByte b) ∨
    (¬(s.busy = true ∧ s.inTime ∧ s.rxq ≠ []) ∧ t.result = 0) := by
  obtain ⟨-, ⟨hempty, rfl⟩ | ⟨b, rest, hq, hbyte⟩⟩ := exec_poll_next h
  · exact .inr ⟨fun ⟨_, _, hbyte⟩ => hbyte hempty, rfl⟩
  rcases guard_cases s with ⟨hintime, e⟩ | ⟨hbusy, hlate, e⟩
  · rw [e] at hbyte
    rcases byteStep_next hbyte with ⟨hidle, rfl⟩ | ⟨hbusy, hroom, rfl⟩
    · exact .inr ⟨fun ⟨hbusy, _⟩ => Bool.false_ne_true (hidle.symm.trans hbusy), idleByte_result _ _ _⟩
    · exact .inl ⟨b, rest, hbusy, hintime, hq, hroom, rfl⟩
  · rw [e, byteStep_idle _ _ b _ rfl] at hbyte
    cases hbyte
    exact .inr ⟨fun ⟨_, hintime, _⟩ => hintime ⟨hbusy, hlate⟩, idleByte_result _ _ _⟩

/-- An in-frame byte makes RESULT L when it is the matching checksum of a frame that is delivered, and 0 else. -/
theorem checkByte_received_result {s : State} {b : Byte} {rest : List Byte} (h : s.cursor.val + 1 < 26) :
    ((s.received b rest h).checkByte b).result =
      if s.cursor.val = 4 + s.rxLen ∧ b = chk (s.rxbuf.toList.take (5 + s.rxLen)) ∧ s.rxSrc ≠ s.ownAddr ∧
        (s.isBcast = true ∨ s.isBypass = false) then s.rxbuf[4] else 0 := by
  by_cases hc : s.cursor.val = 4 + s.rxLen
  · by_cases hgood : b = chk (s.rxbuf.toList.take (5 + s.rxLen))
    · rw [checkByte_received_match h hc hgood, route_result, received_log_rxSrc b rest h hc]
      simp only [and_iff_right hc, and_iff_right hgood]
      rfl
    · rw [checkByte_received_mismatch h hc hgood, setResult_result, if_neg fun ⟨_, heq, _⟩ => hgood heq]
  · rw [checkByte_result_of_not_last _ b (mt (received_cursor_eq_iff h).1 hc), if_neg fun ⟨hlast, _⟩ => hc hlast]

/-- Settles O38: RESULT is 0 unless POLL took an in-frame byte, and then `checkByte_received_result` decides. -/
theorem pollResultIsDeliveredLength : Obligations.PollResultIsDeliveredLength := by
  intro s t h delivers
  rcases exec_poll_next_received h with ⟨b, rest, hb, ht, hq, hroom, rfl⟩ | ⟨hnoFrame, hzero⟩
  · rw [checkByte_received_result hroom, ofNat_rxLen]
    refine ⟨fun ⟨_, _, hc, hhead, hmine⟩ => if_pos ⟨hc, ?_, hmine⟩,
      fun hnot => if_neg fun ⟨hc, hgood, hmine⟩ => hnot ⟨hb, ht, hc, ?_, hmine⟩⟩
    · rw [hq] at hhead
      exact Option.some.inj hhead
    · rw [hq, ← hgood]
      rfl
  · refine ⟨fun ⟨hb, ht, _, hhead, _⟩ => absurd ⟨hb, ht, fun hempty => ?_⟩ hnoFrame, fun _ => hzero⟩
    rw [hempty] at hhead
    cases hhead

end Sys2Proof.Machine

namespace Sys2Proof.Machine

/-! ## INIT, one equation per path (42_control.md R170) -/

section Init

variable {s : State}

theorem exec_init_of_inited (hi : s.inited = true) : exec .init s = .refused .reInit := by
  rw [exec, execInit, if_pos hi]

variable (hi : s.inited = false)
include hi

theorem exec_init_of_badFlags (hflags : s.initFlagsOk = false) : exec .init s = .refused .badOperand := by
  rw [exec, execInit, if_neg (by simp [hi]), if_pos hflags]

variable (hflags : s.initFlagsOk = true)
include hflags

/-- Past the two refusals only the own address decides. -/
theorem exec_init_of_goodFlags : exec .init s =
    if addrLegal s.arg0 = false then .next (s.setResult 0x00)
    else .next { s with
      ownAddr := s.arg0, debug := s.arg1.getLsbD 0, inited := true, baud := some Config.baud, result := 0x01 } := by
  rw [exec, execInit, if_neg (by simp [hi]), if_neg (by simp [hflags])]
  rfl

theorem exec_init_of_illegal (haddr : addrLegal s.arg0 = false) : exec .init s = .next (s.setResult 0x00) := by
  rw [exec_init_of_goodFlags hi hflags, if_pos haddr]

theorem exec_init_of_legal (haddr : addrLegal s.arg0 = true) : exec .init s = .next { s with
    ownAddr := s.arg0, debug := s.arg1.getLsbD 0, inited := true, baud := some Config.baud, result := 0x01 } := by
  rw [exec_init_of_goodFlags hi hflags, if_neg (by simp [haddr])]

end Init

theorem initFlagsOk_eq_false_iff (s : State) : s.initFlagsOk = false ↔ 2 ≤ s.arg1.toNat := by
  rw [← Bool.not_eq_true, initFlagsOk_iff, Nat.not_lt]

/-- Settles O21: one outcome of INIT for each check of R170, in the order of the checks. -/
theorem initFollowsItsRule : Obligations.InitFollowsItsRule :=
  ⟨rfl,
    fun _ hi => exec_init_of_inited hi,
    fun s hi hflags => exec_init_of_badFlags hi ((initFlagsOk_eq_false_iff s).2 hflags),
    fun s hi hflags haddr => exec_init_of_illegal hi ((initFlagsOk_iff s).2 hflags) ((addrLegal_false_iff s.arg0).2 haddr),
    fun s hi hflags hlo hhi => exec_init_of_legal hi ((initFlagsOk_iff s).2 hflags) ((addrLegal_iff s.arg0).2 ⟨hlo, hhi⟩)⟩

/-! ## ISBUSY and the flag it reports (42_control.md R175) -/

theorem exec_isBusy {s : State} (hi : s.inited = true) : exec .isBusy s = .next (s.setResult (flagByte s.busy)) := by
  rw [exec, execIsBusy, whenInitialised_true s _ hi]

/-- STATUS[0] is BUSY: the other two flags stand in bits 1 and 2 (10_state.md R35). -/
theorem statusByte_getLsbD_zero (s : State) : s.statusByte.getLsbD 0 = s.busy := by
  cases hb : s.busy <;> simp [State.statusByte, flagByte, hb]

/-- Of SEND's outcomes only the transmission writes BUSY; it starts with BUSY clear and clears it again (40_send.md R114). -/
theorem exec_send_next_busy {s t : State} (h : exec .send s = .next t) : t.busy = s.busy := by
  obtain ⟨-, rfl | rfl | rfl | ⟨-, rfl⟩ | ⟨hidle, -, rfl⟩⟩ := exec_send_next h
  on_goal 5 => exact hidle.symm
  all_goals rfl

/-- Settles O22: ISBUSY past the gate, bit 0 of STATUS, and SEND's frame for BUSY. -/
theorem isBusyReportsBusy : Obligations.IsBusyReportsBusy :=
  ⟨rfl, fun _ hi => exec_isBusy hi, statusByte_getLsbD_zero, fun _ _ => exec_send_next_busy⟩

end Sys2Proof.Machine

namespace Sys2Proof.Machine

/-! ## A changed byte and the checksum (30_encoding.md R96) -/

/-- The fold of XOR tells any two start values apart. -/
theorem foldl_xor_injective (bs : List Byte) : Function.Injective fun c => bs.foldl (· ^^^ ·) c := by
  induction bs with
  | nil => exact Function.injective_id
  | cons b bs ih => exact fun c c' h => (BitVec.xor_left_inj b).1 (ih h)

/-- A changed byte changes the fold up to it, and no byte after it undoes that. -/
theorem chk_set_ne {bs : List Byte} {k : Nat} {b : Byte} (hk : k < bs.length) (hne : b ≠ bs[k]) :
    chk (bs.set k b) ≠ chk bs := by
  obtain ⟨front, back, hbs, -, hset⟩ := List.exists_of_set (a' := b) hk
  intro heq
  rw [hset, hbs] at heq
  simp only [chk, List.foldl_append, List.foldl_cons] at heq
  exact hne ((BitVec.xor_right_inj _).1 (foldl_xor_injective back heq))

/-- A change behind the markers that spares L leaves a frame body with the same L. -/
theorem frameBody_set (dest src len : Byte) (payload : List Byte) {k : Nat} (b : Byte) (h0 : k ≠ 0) (h1 : k ≠ 1)
    (h4 : k ≠ 4) : ∃ dest' src' payload', payload'.length = payload.length ∧
      (frameBody dest src len payload).set k b = frameBody dest' src' len payload' := by
  match k with
  | 2 => exact ⟨b, src, payload, rfl, rfl⟩
  | 3 => exact ⟨dest, b, payload, rfl, rfl⟩
  | i + 5 => exact ⟨dest, src, payload.set i b, List.length_set, rfl⟩

/-- So a frame with such a byte changed, the checksum byte or one before it, is a body and a byte that is not its checksum. -/
theorem frame_set {dest src len : Byte} {payload : List Byte} {k : Nat} {b : Byte}
    (hk : k < (frame dest src len payload).length) (h0 : k ≠ 0) (h1 : k ≠ 1) (h4 : k ≠ 4)
    (hne : b ≠ (frame dest src len payload)[k]) :
    ∃ dest' src' payload' c, payload'.length = payload.length ∧ c ≠ chk (frameBody dest' src' len payload') ∧
      (frame dest src len payload).set k b = frameBody dest' src' len payload' ++ [c] := by
  by_cases hbody : k < (frameBody dest src len payload).length
  · obtain ⟨dest', src', payload', hlen, hset⟩ := frameBody_set dest src len payload b h0 h1 h4
    have hchanged : b ≠ (frameBody dest src len payload)[k] := by rwa [← List.getElem_append_left hbody]
    refine ⟨dest', src', payload', chk (frameBody dest src len payload), hlen, ?_, ?_⟩
    · rw [← hset]
      exact (chk_set_ne hbody hchanged).symm
    · rw [frame, List.set_append_left k b hbody, hset]
  · obtain rfl : k = (frameBody dest src len payload).length := by
      rw [frame_length] at hk
      rw [frameBody_length] at hbody ⊢
      omega
    refine ⟨dest, src, payload, b, rfl, ?_, ?_⟩
    · simpa [frame] using hne
    · rw [frame, List.set_append_right _ b le_rfl, Nat.sub_self]
      rfl

/-! ## POLLs in a row -/

theorem polls_succ {s t : State} (n : Nat) (h : exec .poll s = .next t) : s.polls (n + 1) = t.polls n := by
  rw [State.polls, h]

theorem polls_add {s t : State} {m : Nat} (n : Nat) (h : s.polls m = .next t) : s.polls (m + n) = t.polls n := by
  induction m generalizing s with
  | zero =>
    cases h
    rw [Nat.zero_add]
  | succ m ih =>
    cases hpoll : exec .poll s with
    | next u =>
      rw [polls_succ m hpoll] at h
      rw [Nat.add_right_comm, polls_succ (m + n) hpoll, ih h]
    | fault f => simp [State.polls, hpoll] at h
    | refused f => simp [State.polls, hpoll] at h

/-! ## A frame taken byte by byte, with no other input between the POLLs (41_receive.md R134 to R139) -/

/-- Storing one more byte behind those stored from index 0 on. -/
theorem storeFrom_zero_concat {n : Nat} (buf : Vector Byte n) (bs : List Byte) (b : Byte) (h : bs.length < n) :
    storeFrom buf 0 (bs ++ [b]) = (storeFrom buf 0 bs).set bs.length b h := by
  ext i hi
  rw [Vector.getElem_set, storeFrom_getElem, storeFrom_getElem]
  rcases lt_trichotomy i bs.length with hbelow | rfl | habove
  · simp [hbelow, hbelow.ne', hbelow.le]
  · simp
  · simp [habove.ne, habove.not_gt, Nat.not_le.2 habove]

/-- `r` in the middle of a frame that began at its clock: `bytes` are the frame's bytes taken so far, `queue` is what is left
of RXQ, and the two flags are given. -/
def State.hearing (r : State) (bcast bypass : Bool) (bytes queue : List Byte) : State := { r with
  busy := true, cursor := Fin.ofNat 26 (bytes.length - 1), ts := r.clock, isBcast := bcast, isBypass := bypass
  rxbuf := storeFrom r.rxbuf 0 bytes, rxq := queue, result := 0 }

section Hearing

variable {r : State} {bcast bypass : Bool} {bytes queue : List Byte} {b : Byte}

theorem hearing_setResult : (r.hearing bcast bypass bytes queue).setResult 0 = r.hearing bcast bypass bytes queue := rfl

/-- Whether the timer restarts at every byte or not, TS stays at the clock. -/
theorem hearing_tsAfterByte : (r.hearing bcast bypass bytes queue).tsAfterByte = r.clock := ite_self _

theorem hearing_inTime : (r.hearing bcast bypass bytes queue).inTime := by
  simp [State.inTime, State.elapsedTime, State.hearing]

theorem hearing_cursor (hpos : 0 < bytes.length) (hroom : bytes.length ≤ 26) :
    (r.hearing bcast bypass bytes queue).cursor.val = bytes.length - 1 :=
  Nat.mod_eq_of_lt (by omega : bytes.length - 1 < 26)

theorem hearing_rxbuf_take (hroom : bytes.length ≤ 26) :
    (r.hearing bcast bypass bytes queue).rxbuf.toList.take bytes.length = bytes := by
  rw [← bytesFrom_zero]
  exact bytesFrom_storeFrom r.rxbuf bytes hroom

theorem hearing_rxbuf_getElem {i : Nat} (hi : i < bytes.length) (hroom : i < 26) :
    (r.hearing bcast bypass bytes queue).rxbuf[i] = bytes[i] := by
  simp [State.hearing, storeFrom_getElem, hi]

/-- Storing the next byte leaves a state of the same shape, so only the checks need a look. -/
theorem hearing_received (hpos : 0 < bytes.length) (hroom : bytes.length - 1 + 1 < 26) :
    (r.hearing bcast bypass bytes (b :: queue)).received b queue hroom =
      r.hearing bcast bypass (bytes ++ [b]) queue := by
  have hlast : bytes.length - 1 + 1 = bytes.length := Nat.sub_add_cancel hpos
  have hfits : bytes.length < 26 := hlast ▸ hroom
  have hcursor : (⟨bytes.length - 1 + 1, hroom⟩ : Fin 26) = (r.hearing bcast bypass (bytes ++ [b]) queue).cursor := by
    apply Fin.ext
    rw [hearing_cursor (by simp) (by simpa using hfits), List.length_append, List.length_singleton, Nat.add_sub_cancel]
    exact hlast
  have hrxbuf : (storeFrom r.rxbuf 0 bytes).set (bytes.length - 1 + 1) b hroom = storeFrom r.rxbuf 0 (bytes ++ [b]) := by
    simp only [hlast]
    exact (storeFrom_zero_concat r.rxbuf bytes b hfits).symm
  simp only [State.received, hearing_tsAfterByte, hcursor]
  simp only [State.hearing, hrxbuf]

/-- A POLL takes the next byte of the frame, stores it and checks it. -/
theorem polls_hearing_succ {bcast' bypass' : Bool} (n : Nat) (hi : r.inited = true) (hpos : 0 < bytes.length)
    (hroom : bytes.length < 26)
    (hcheck : (r.hearing bcast bypass (bytes ++ [b]) queue).checkByte b = r.hearing bcast' bypass' (bytes ++ [b]) queue) :
    (r.hearing bcast bypass bytes (b :: queue)).polls (n + 1) =
      (r.hearing bcast' bypass' (bytes ++ [b]) queue).polls n := by
  have hnext : bytes.length - 1 + 1 < 26 := by omega
  have hpoll := exec_poll_received (s := r.hearing bcast bypass bytes (b :: queue)) hi rfl hearing_inTime rfl
    (hearing_cursor hpos hroom.le) hnext
  rw [hearing_received hpos hnext, hcheck] at hpoll
  exact polls_succ n hpoll

end Hearing

/-! ## From an idle node to the end of a frame's body -/

/-- IS_BCAST as R137 sets it. -/
def bcastFlag (dest src : Byte) : Bool := decide (dest = 0x01 ∧ src = 0x01)

/-- IS_BYPASS as R137 sets it. -/
def State.bypassFlag (r : State) (dest src : Byte) : Bool := decide (¬(dest = 0x01 ∧ src = 0x01) ∧ dest ≠ r.ownAddr)

/-- SRC, the fourth byte, classifies the frame (R137). -/
theorem hearing_classify (r : State) (dest src : Byte) (queue : List Byte) :
    (r.hearing false false [0xEF, 0xFA, dest, src] queue).classify =
      r.hearing (bcastFlag dest src) (r.bypassFlag dest src) [0xEF, 0xFA, dest, src] queue := by
  have hdest : (r.hearing false false [0xEF, 0xFA, dest, src] queue).rxDest = dest :=
    hearing_rxbuf_getElem (by simp) (by decide)
  have hsrc : (r.hearing false false [0xEF, 0xFA, dest, src] queue).rxSrc = src :=
    hearing_rxbuf_getElem (by simp) (by decide)
  rw [classify_eq, hdest, hsrc]
  simp [State.hearing, bcastFlag, State.bypassFlag]

section Body

variable {r : State} {bcast bypass : Bool} {dest src len b : Byte} {payload queue : List Byte}

theorem hearing_body_rxLen : (r.hearing bcast bypass (frameBody dest src len payload) queue).rxLen = len.toNat :=
  congrArg BitVec.toNat (hearing_rxbuf_getElem (by simp; omega) (by decide))

theorem hearing_body_cursor (hroom : payload.length ≤ 20) :
    (r.hearing bcast bypass (frameBody dest src len payload) queue).cursor.val = 4 + payload.length := by
  have hlength := frameBody_length dest src len payload
  rw [hearing_cursor (by omega) (by omega), hlength]
  omega

/-- A payload byte is not checked (R146). -/
theorem checkByte_hearing_payload (hlen : len.toNat ≤ 20) (hroom : payload.length < len.toNat) :
    (r.hearing bcast bypass (frameBody dest src len (payload ++ [b])) queue).checkByte b =
      r.hearing bcast bypass (frameBody dest src len (payload ++ [b])) queue := by
  have hlength : (payload ++ [b]).length = payload.length + 1 := List.length_append
  have hcursor := hearing_body_cursor (r := r) (bcast := bcast) (bypass := bypass) (dest := dest) (src := src)
    (len := len) (payload := payload ++ [b]) (queue := queue) (by omega)
  rw [checkByte_payload _ b (by omega) (by rw [hearing_body_rxLen]; omega), hearing_setResult]

variable (hi : r.inited = true) (hlen : len.toNat ≤ 20)
include hi

/-- START1 starts the frame. -/
theorem exec_poll_start (hb : r.busy = false) (hq : r.rxq = 0xEF :: queue) :
    exec .poll r = .next (r.hearing false false [0xEF] queue) := by
  have hstore : storeFrom r.rxbuf 0 [0xEF] = r.rxbuf.set 0 0xEF := storeFrom_zero_concat r.rxbuf [] 0xEF (by decide)
  rw [pollIdleByte.2 r queue hi hb hq, State.hearing, hstore]
  rfl

include hlen

/-- The five header bytes pass the checks at cursors 1 to 4 (R136 to R138). -/
theorem polls_header (hb : r.busy = false) (hq : r.rxq = frameBody dest src len [] ++ queue) :
    r.polls 5 = .next (r.hearing (bcastFlag dest src) (r.bypassFlag dest src) (frameBody dest src len []) queue) :=
  calc r.polls 5
    _ = (r.hearing false false [0xEF] (0xFA :: dest :: src :: len :: queue)).polls 4 :=
      polls_succ 4 (exec_poll_start hi hb hq)
    _ = (r.hearing false false [0xEF, 0xFA] (dest :: src :: len :: queue)).polls 3 :=
      polls_hearing_succ 3 hi (by simp) (by simp) (checkByte_marker2_good _ _ rfl rfl)
    _ = (r.hearing false false [0xEF, 0xFA, dest] (src :: len :: queue)).polls 2 :=
      polls_hearing_succ 2 hi (by simp) (by simp) (checkByte_dest _ _ rfl)
    _ = (r.hearing (bcastFlag dest src) (r.bypassFlag dest src) [0xEF, 0xFA, dest, src] (len :: queue)).polls 1 :=
      polls_hearing_succ 1 hi (by simp) (by simp)
        ((checkByte_src _ src rfl).trans (congrArg (·.setResult 0) (hearing_classify r dest src (len :: queue))))
    _ = (r.hearing (bcastFlag dest src) (r.bypassFlag dest src) (frameBody dest src len []) queue).polls 0 :=
      polls_hearing_succ 0 hi (by simp) (by simp) (checkByte_len_good _ _ rfl hlen)

/-- Payload bytes are only stored, as long as the checksum byte is still to come (R146). -/
theorem polls_payload (before after : List Byte) (hfits : before.length + after.length ≤ len.toNat) :
    (r.hearing bcast bypass (frameBody dest src len before) (after ++ queue)).polls after.length =
      .next (r.hearing bcast bypass (frameBody dest src len (before ++ after)) queue) := by
  induction after generalizing before with
  | nil =>
    rw [List.append_nil]
    rfl
  | cons b after ih =>
    rw [List.length_cons] at hfits
    have hmoved : (before ++ [b]).length + after.length ≤ len.toNat := by
      rw [List.length_append, List.length_singleton]
      omega
    have hcheck := checkByte_hearing_payload (r := r) (bcast := bcast) (bypass := bypass) (dest := dest) (src := src)
      (b := b) (payload := before) (queue := after ++ queue) hlen (by omega)
    have hpoll := polls_hearing_succ (bytes := frameBody dest src len before) after.length hi (by simp) (by simp; omega) hcheck
    rw [List.append_cons]
    exact hpoll.trans (ih (before ++ [b]) hmoved)

variable (hpayload : payload.length = len.toNat)
include hpayload

/-- All the bytes of a frame but the last. -/
theorem polls_frameBody (hb : r.busy = false) (hq : r.rxq = frameBody dest src len payload ++ queue) :
    r.polls (5 + len.toNat) = .next
      (r.hearing (bcastFlag dest src) (r.bypassFlag dest src) (frameBody dest src len payload) queue) := by
  rw [polls_add _ (polls_header hi hlen hb hq), ← hpayload]
  exact polls_payload hi hlen [] payload (by simp [hpayload])

/-- The byte after a frame's body ends the frame, and one that is not the body's checksum ends it in CRC Fail (R139). -/
theorem exec_poll_hearing_mismatch (hbad : b ≠ chk (frameBody dest src len payload)) :
    ∃ t, exec .poll (r.hearing bcast bypass (frameBody dest src len payload) (b :: queue)) = .next t ∧
      t.txout = r.txout ∧ t.result = 0 ∧ t.outdata = r.outdata ∧ t.rxq = queue ∧ t.busy = false ∧
      t.logout = r.logAfter [.crcFail] := by
  have hlength : (frameBody dest src len payload).length = 5 + len.toNat := by rw [frameBody_length, hpayload]
  have hcursor : (r.hearing bcast bypass (frameBody dest src len payload) (b :: queue)).cursor.val = 4 + len.toNat := by
    rw [hearing_body_cursor (by omega), hpayload]
  have htake := hearing_rxbuf_take (r := r) (bcast := bcast) (bypass := bypass) (queue := b :: queue)
    (bytes := frameBody dest src len payload) (by omega)
  rw [hlength] at htake
  refine ⟨_, pollChecksumMismatchAborts.1 _ b queue (by omega) hi rfl hearing_inTime rfl ?_ ?_,
    rfl, rfl, rfl, rfl, rfl, rfl⟩
  · rw [hearing_body_rxLen, hcursor]
  · rwa [hearing_body_rxLen, htake]

end Body

/-- Settles O55: the changed byte leaves a frame with the same L whose last byte is not its checksum, so the byte that
completes it aborts. -/
theorem corruptedFrameIsDiscarded : Obligations.CorruptedFrameIsDiscarded := by
  intro r dest src len payload rest k b hi hb hpayload hlen hk h0 h1 h4 hne hq
  obtain ⟨dest', src', payload', c, hsame, hbad, hset⟩ := frame_set hk h0 h1 h4 hne
  rw [hset, List.append_assoc] at hq
  have hbody := polls_frameBody hi hlen (hsame.trans hpayload) hb hq
  obtain ⟨t, hlast, hdiscarded⟩ := exec_poll_hearing_mismatch hi hlen (hsame.trans hpayload) hbad
  refine ⟨t, ?_, hdiscarded⟩
  calc r.polls (6 + len.toNat)
    _ = r.polls (5 + len.toNat + 1) := by rw [Nat.add_right_comm]
    _ = _ := polls_add 1 hbody
    _ = .next t := polls_succ 0 hlast

end Sys2Proof.Machine

namespace Sys2Proof.Machine

/-! ## What of the invariant does not speak of a frame in progress -/

/-- The part of `State.Inv` that a Link keeps whether a frame is in progress or not. -/
structure State.Standing (s : State) : Prop where
  timesFit : s.clock < 2 ^ s.params.timeWidth ∧ s.ts < 2 ^ s.params.timeWidth
  queueFits : ∀ depth, s.params.rxqDepth = some depth → s.rxq.length ≤ depth
  exclusive : s.isBcast = true → s.isBypass = false
  address : s.inited = true → 1 ≤ s.ownAddr.toNat ∧ s.ownAddr.toNat ≤ 0x7F
  beforeInit : s.inited = false → s.ownAddr = 0 ∧ s.debug = false

theorem State.Inv.standing {s : State} (h : s.Inv) : s.Standing :=
  { h with beforeInit := fun hi => ⟨(h.beforeInit hi).1, (h.beforeInit hi).2.1⟩ }

/-- Of an idle Link the invariant asks nothing more than CURSOR = 0. -/
theorem inv_of_idle {s : State} (h : s.Standing) (hb : s.busy = false) (hc : s.cursor = 0) : s.Inv :=
  have noFrame {p : Prop} (hbusy : s.busy = true) : p := absurd hbusy (Bool.eq_false_iff.1 hb)
  { h with
    idle := fun _ => congrArg Fin.val hc
    cursorLe := noFrame, marker1 := noFrame, marker2 := noFrame, lenByte := noFrame, fresh := noFrame
    classified := noFrame
    beforeInit := fun hi => ⟨(h.beforeInit hi).1, (h.beforeInit hi).2, hb⟩ }

theorem State.Standing.abort {s : State} (h : s.Standing) (r : AbortReason) : (s.abort r).Standing := { h with }

theorem State.Standing.completeFrame {s : State} (h : s.Standing) : s.completeFrame.Standing where
  timesFit := by simpa using h.timesFit
  queueFits := by simpa using h.queueFits
  exclusive := by simpa using h.exclusive
  address := by simpa using h.address
  beforeInit := by simpa using h.beforeInit

theorem State.Inv.setResult {s : State} (h : s.Inv) (v : Byte) : (s.setResult v).Inv := { h with }

theorem State.Inv.log {s : State} (h : s.Inv) (t : Tag) : (s.log t).Inv := { h with }

/-- An abort leaves the Link idle (60_exceptions.md R197). -/
theorem State.Standing.inv_abort {s : State} (h : s.Standing) (r : AbortReason) : (s.abort r).Inv :=
  inv_of_idle (h.abort r) rfl rfl

theorem State.Inv.guard {s : State} (h : s.Inv) : s.guard.Inv := by
  rcases guard_cases s with ⟨-, e⟩ | ⟨-, -, e⟩
  · rwa [e]
  · rw [e]
    exact h.standing.inv_abort .timeout

/-- Taking the oldest byte off RXQ leaves a queue that fits. -/
theorem State.Inv.withoutByte {s : State} {b : Byte} {rest : List Byte} (h : s.Inv) (hq : s.rxq = b :: rest) :
    ({ s with rxq := rest } : State).Inv := by
  have hfits : ∀ depth, s.params.rxqDepth = some depth → rest.length ≤ depth := fun depth hdepth => by
    have hbefore := h.queueFits depth hdepth
    rw [hq, List.length_cons] at hbefore
    exact Nat.le_of_succ_le hbefore
  exact { h with queueFits := hfits }

/-! ## The invariant across a POLL -/

/-- START1 starts a frame, any other byte leaves the Link idle (41_receive.md R134). -/
theorem State.Inv.idleByte {s : State} {now : Nat} (h : s.Inv) (hnow : now < 2 ^ s.params.timeWidth)
    (hi : s.inited = true) (b : Byte) : (s.idleByte now b).Inv := by
  unfold State.idleByte
  split
  · exact (h.log .noStart1).setResult 0
  · rename_i hstart
    exact {
      idle := nofun
      cursorLe := fun _ => Nat.zero_le 24
      marker1 := fun _ => (Vector.getElem_set_self _).trans (not_not.1 hstart)
      marker2 := fun _ => nofun
      lenByte := fun _ => nofun
      fresh := fun _ _ => ⟨rfl, rfl⟩
      classified := fun _ => nofun
      timesFit := ⟨h.timesFit.1, hnow⟩
      queueFits := h.queueFits
      exclusive := nofun
      address := h.address
      beforeInit := fun hno => absurd hi (Bool.eq_false_iff.1 hno) }

/-- A frame in progress whose latest byte, the one at CURSOR, is stored and not yet checked: what `State.Inv` asks of it but
for that byte. -/
structure State.Unchecked (s : State) : Prop extends s.Standing where
  started : s.inited = true ∧ s.busy = true ∧ 1 ≤ s.cursor.val
  marker1 : s.rxbuf[0] = 0xEF
  marker2 : 2 ≤ s.cursor.val → s.rxbuf[1] = 0xFA
  lenByte : 5 ≤ s.cursor.val → s.rxLen ≤ 20 ∧ s.cursor.val ≤ 5 + s.rxLen
  fresh : s.cursor.val ≤ 3 → s.isBcast = false ∧ s.isBypass = false
  classified : 4 ≤ s.cursor.val →
    (s.isBcast = true ↔ s.rxDest = 0x01 ∧ s.rxSrc = 0x01) ∧
    (s.isBypass = true ↔ ¬(s.rxDest = 0x01 ∧ s.rxSrc = 0x01) ∧ s.rxDest ≠ s.ownAddr)

/-- The bytes of the frame up to CURSOR stay when the next one is stored. -/
theorem stored_rxbuf_getElem (restart : Bool) (now : Nat) (b : Byte) (s : State) (h : s.cursor.val + 1 < 26) {i : Nat}
    (hi : i ≤ s.cursor.val) :
    (stored restart now b s h).rxbuf[i]'(hi.trans_lt s.cursor.isLt) = s.rxbuf[i]'(hi.trans_lt s.cursor.isLt) :=
  Vector.getElem_set_ne h _ (by omega)

/-- Storing a byte of a frame in progress (R135). -/
theorem State.Inv.unchecked_stored {s : State} {now : Nat} (inv : s.Inv) (hi : s.inited = true) (hb : s.busy = true)
    (hnow : now < 2 ^ s.params.timeWidth) (restart : Bool) (b : Byte) (h : s.cursor.val + 1 < 26) :
    (stored restart now b s h).Unchecked where
  timesFit := ⟨inv.timesFit.1, by cases restart; exacts [inv.timesFit.2, hnow]⟩
  queueFits := inv.queueFits
  exclusive := inv.exclusive
  address := inv.address
  beforeInit := inv.standing.beforeInit
  started := ⟨hi, hb, Nat.succ_pos _⟩
  marker1 := (stored_rxbuf_getElem restart now b s h (Nat.zero_le _)).trans (inv.marker1 hb)
  marker2 := fun hc => by
    have hc' : 1 ≤ s.cursor.val := Nat.le_of_succ_le_succ hc
    rw [stored_rxbuf_getElem restart now b s h hc']
    exact inv.marker2 hb hc'
  lenByte := fun hc => by
    have hc' : 4 ≤ s.cursor.val := Nat.le_of_succ_le_succ hc
    obtain ⟨hlen, hcursor⟩ := inv.lenByte hb hc'
    rw [State.rxLen, stored_rxbuf_getElem restart now b s h hc']
    exact ⟨hlen, by change s.cursor.val + 1 ≤ 5 + s.rxLen; omega⟩
  fresh := fun hc => inv.fresh hb hc
  classified := fun hc => by
    have hc' : 3 ≤ s.cursor.val := Nat.le_of_succ_le_succ hc
    rw [State.rxDest, State.rxSrc, stored_rxbuf_getElem restart now b s h hc',
      stored_rxbuf_getElem restart now b s h (Nat.le_of_succ_le hc')]
    exact inv.classified hb hc'

/-- At cursor 3 the flags become the classification of DEST and SRC (R137). -/
theorem State.Unchecked.inv_classify {s : State} (h : s.Unchecked) (hc : s.cursor.val = 3) : s.classify.Inv := by
  obtain ⟨hi, hb, -⟩ := h.started
  obtain ⟨hbcast, hbypass⟩ := h.fresh hc.le
  rw [classify_eq, hbcast, hbypass]
  have hflag (p : Prop) [Decidable p] : (if p then true else false) = true ↔ p := by simp
  exact { h with
    idle := fun hidle => absurd hb (Bool.eq_false_iff.1 hidle)
    cursorLe := fun _ => hc.le.trans (by decide)
    marker1 := fun _ => h.marker1
    marker2 := fun _ _ => h.marker2 (by omega)
    lenByte := fun _ h4 => absurd (h4.trans_eq hc) (by decide)
    fresh := fun _ hlt => absurd (hc.symm.trans_lt hlt) (by decide)
    classified := fun _ _ => ⟨hflag _, hflag _⟩
    exclusive := fun h1 => if_neg fun ⟨hnot, _⟩ => hnot ((hflag _).1 h1)
    beforeInit := fun hno => absurd hi (Bool.eq_false_iff.1 hno) }

/-- A byte that passes its check, and is neither SRC nor the last, leaves a frame in progress. -/
theorem State.Unchecked.inv_of_passed {s : State} (h : s.Unchecked) (h3 : s.cursor.val ≠ 3)
    (hmarker : s.cursor.val = 1 → s.rxbuf[1] = 0xFA) (hlen : s.cursor.val = 4 → s.rxLen ≤ 20)
    (hlast : s.cursor.val ≠ 5 + s.rxLen) : s.Inv := by
  obtain ⟨hi, hb, hpos⟩ := h.started
  have hlenByte : 4 ≤ s.cursor.val → s.rxLen ≤ 20 ∧ s.cursor.val ≤ 4 + s.rxLen := fun hc => by
    rcases hc.eq_or_lt with h4 | h5
    · exact ⟨hlen h4.symm, by omega⟩
    · obtain ⟨hfits, hle⟩ := h.lenByte h5
      exact ⟨hfits, by omega⟩
  exact { h with
    idle := fun hidle => absurd hb (Bool.eq_false_iff.1 hidle)
    cursorLe := fun _ => by omega
    marker1 := fun _ => h.marker1
    marker2 := fun _ hc => hc.eq_or_lt.elim (fun h1 => hmarker h1.symm) h.marker2
    lenByte := fun _ => hlenByte
    fresh := fun _ hc => h.fresh hc.le
    classified := fun _ hc => h.classified (lt_of_le_of_ne hc h3.symm)
    beforeInit := fun hno => absurd hi (Bool.eq_false_iff.1 hno) }

/-- Whatever the check of the byte just stored answers has the invariant (R136 to R142). -/
theorem State.Unchecked.inv_checkByte {s : State} (h : s.Unchecked) {b : Byte} (hb : s.rxbuf[s.cursor] = b) :
    (s.checkByte b).Inv := by
  have hat {k : Nat} (hk : k < 26) (hc : s.cursor.val = k) : s.rxbuf[k] = b := by
    subst hc
    exact hb
  rcases checkByte_cases s b with ⟨-, -, e⟩ | ⟨hc, e⟩ | ⟨-, -, e⟩ | ⟨-, e⟩ | ⟨h3, hmarker, hlen, hlast, e⟩ <;> rw [e]
  · exact (h.inv_abort .noStart2).setResult 0
  · exact (h.inv_classify hc).setResult 0
  · exact (h.inv_abort .tooLong).setResult 0
  · obtain ⟨hidle, hcursor⟩ := completeFrame_released s
    exact inv_of_idle h.toStanding.completeFrame hidle hcursor
  · have hpassed := h.inv_of_passed h3 (fun h1 => (hat (by decide) h1).trans (hmarker h1))
      (fun h4 => by rw [State.rxLen, hat (by decide) h4]; exact hlen h4) hlast
    exact hpassed.setResult 0

theorem byteStep_next_inv {restart : Bool} {now : Nat} {b : Byte} {s t : State} (inv : s.Inv) (hi : s.inited = true)
    (hnow : now < 2 ^ s.params.timeWidth) (h : byteStep restart now b s = .next t) : t.Inv := by
  rcases byteStep_next h with ⟨-, rfl⟩ | ⟨hb, hc, rfl⟩
  · exact inv.idleByte hnow hi b
  · exact (inv.unchecked_stored hi hb hnow restart b hc).inv_checkByte (Vector.getElem_set_self _)

theorem exec_poll_next_inv {s t : State} (inv : s.Inv) (h : exec .poll s = .next t) : t.Inv := by
  obtain ⟨hi, ⟨-, rfl⟩ | ⟨b, rest, hq, hbyte⟩⟩ := exec_poll_next h
  · exact inv.guard.setResult 0
  · have hrest : ({ s.guard with rxq := rest } : State).Inv := inv.guard.withoutByte ((guard_rxq s).trans hq)
    refine byteStep_next_inv hrest ((guard_inited s).trans hi) ?_ hbyte
    simpa using inv.timesFit.1

/-! ## The invariant across the other commands -/

theorem exec_next_inv {i : Instr} {s t : State} (inv : s.Inv) (h : exec i s = .next t) : t.Inv := by
  cases i with
  | init =>
    obtain ⟨hi, -, ⟨-, rfl⟩ | ⟨haddr, rfl⟩⟩ := exec_init_next h
    · exact inv.setResult 0
    · obtain ⟨-, -, hb⟩ := inv.beforeInit hi
      have hstanding := inv.standing
      exact inv_of_idle { hstanding with address := fun _ => (addrLegal_iff _).1 haddr, beforeInit := nofun } hb
        (Fin.ext (inv.idle hb))
  | send =>
    obtain ⟨-, rfl | rfl | rfl | ⟨-, rfl⟩ | ⟨hb, -, rfl⟩⟩ := exec_send_next h
    · exact ((inv.log _).log _).setResult _
    · exact ((inv.log _).log _).setResult _
    · exact ((inv.log _).log _).setResult _
    · exact (inv.log _).setResult _
    · have hstanding := inv.standing
      exact inv_of_idle { hstanding with } rfl (Fin.ext (inv.idle hb))
  | isBusy =>
    obtain ⟨-, rfl⟩ := exec_isBusy_next h
    exact inv.setResult _
  | dump =>
    obtain ⟨-, dir, -, rfl⟩ := exec_dump_next h
    unfold State.logDump
    split
    · exact { inv with }
    · exact inv
  | poll => exact exec_poll_next_inv inv h

/-! ## The invariant across a step -/

/-- A step that runs no command is one event or one access: it writes at most the fields named here, keeps CLOCK a
TIME_WIDTH-bit value, and only appends to what the host has read. Any other step is the host's write of a command's opcode to
CMD (20_memory.md R59, R63). -/
theorem step_next_event_or_command {s t : State} (h : step s = .next t) :
    (t = { s with
        inputs := t.inputs, rxq := t.rxq, clock := t.clock, reads := t.reads, arg0 := t.arg0, arg1 := t.arg1
        txdata := t.txdata } ∧
      (s.clock < 2 ^ s.params.timeWidth → t.clock < 2 ^ s.params.timeWidth) ∧ s.reads <+: t.reads) ∨
    ∃ i rest, s.inputs = .access (.write 0x00 1 i.opcode) :: rest ∧ exec i { s with inputs := rest } = .next t := by
  rcases step_cases h with ⟨-, rfl⟩ | ⟨_, _, -, rfl⟩ | ⟨_, _, -, rfl⟩ | ⟨c, _, -, rfl⟩ | ⟨_, r, _, -, -, rfl⟩ |
    ⟨_, _, _, -, -, rfl⟩ | ⟨_, _, _, -, -, rfl⟩ | ⟨_, _, _, _, -, -, rfl⟩ |
    ⟨off, op, i, rest, hin, hoff, hop, hcommand⟩
  on_goal 9 =>
    refine .inr ⟨i, rest, ?_, hcommand⟩
    rw [hin, eq_offset_of_atOffset hoff, eq_opcode_of_decode hop]
    rfl
  on_goal 5 => exact .inl ⟨rfl, id, List.prefix_append s.reads _⟩
  on_goal 4 => exact .inl ⟨rfl, fun _ => Nat.mod_lt c (Nat.two_pow_pos _), List.prefix_rfl⟩
  all_goals exact .inl ⟨rfl, id, List.prefix_rfl⟩

/-- Settles O43: an event or access writes nothing the invariant speaks of but CLOCK and RXQ, which stay within their
bounds; a command keeps it by `exec_next_inv`. -/
theorem stepKeepsInv : Obligations.StepKeepsInv := by
  intro s t inv h
  rcases step_next_event_or_command h with ⟨heq, hclock, -⟩ | ⟨i, rest, -, hcommand⟩
  · have hfits : ∀ depth, s.params.rxqDepth = some depth → t.rxq.length ≤ depth := fun depth hdepth =>
      step_next_rxq_length_le h hdepth (inv.queueFits depth hdepth)
    rw [heq]
    exact { inv with timesFit := ⟨hclock inv.timesFit.1, inv.timesFit.2⟩, queueFits := hfits }
  · have inv' : ({ s with inputs := rest } : State).Inv := { inv with }
    exact exec_next_inv inv' hcommand

end Sys2Proof.Machine

namespace Sys2Proof.Machine

/-! ## POLL without a byte, and a POLL whose guard fires (41_receive.md R131 to R133) -/

theorem exec_poll_noByte {s : State} (hi : s.inited = true) (hq : s.rxq = []) :
    exec .poll s = .next (s.guard.setResult 0) := by
  rw [exec_poll s hi, poll_noByte _ s hq]

/-- Settles O27: in time the guard does nothing. -/
theorem pollWithoutByteWaits : Obligations.PollWithoutByteWaits := by
  intro s hi ht hq
  rw [exec_poll_noByte hi hq, guard_inTime s ht]
  rfl

/-- After an abort the guard has nothing left to do. -/
theorem guard_abort (s : State) (r : AbortReason) : (s.abort r).guard = s.abort r :=
  guard_inTime _ fun ⟨hb, _⟩ => Bool.false_ne_true hb

/-- A POLL out of time is the POLL of the aborted state. -/
theorem exec_poll_timedOut {s : State} (hi : s.inited = true) (hb : s.busy = true) (hlate : 100 < s.elapsedTime) :
    exec .poll s = exec .poll (s.abort .timeout) := by
  have hguard : s.guard = (s.abort .timeout).guard := by rw [guard_timedOut s hb hlate, guard_abort]
  rw [exec_poll s hi, exec_poll (s.abort .timeout) hi]
  cases hq : s.rxq with
  | nil => rw [poll_noByte _ s hq, poll_noByte _ (s.abort .timeout) hq, hguard]
  | cons b rest =>
    rw [poll_byte _ s b rest hq, poll_byte _ (s.abort .timeout) b rest hq, hguard]
    rfl

/-- Settles O26: the state the statement names is the aborted one, on which an empty queue ends the POLL. -/
theorem pollTimeoutAborts : Obligations.PollTimeoutAborts := by
  intro s hi hb hlate
  refine ⟨exec_poll_timedOut hi hb hlate, fun hq => ?_⟩
  rw [exec_poll_noByte hi hq, guard_timedOut s hb hlate]
  rfl

/-! ## Bytes that are only stored (41_receive.md R146) -/

/-- Settles O30: no check is for the byte at cursor 2, and none for a payload byte. -/
theorem pollStoresUncheckedByte : Obligations.PollStoresUncheckedByte := by
  intro s b rest h hi hb ht hq hc
  rw [exec_poll_received hi hb ht hq rfl h]
  rcases hc with hdest | ⟨hlo, hhi⟩
  · rw [checkByte_dest _ b (congrArg Nat.succ hdest)]
    rfl
  · rw [checkByte_received_payload h hlo hhi]
    rfl

/-- Settles O39: every path of POLL leaves what `exec_poll_next_rxq` says. -/
theorem pollConsumesOneByte : Obligations.PollConsumesOneByte := fun _ _ => exec_poll_next_rxq

/-! ## POLL completes (20_memory.md R71) -/

theorem byteStep_completes (restart : Bool) (now : Nat) (b : Byte) {s : State}
    (h : s.busy = true → s.cursor.val ≤ 24) : ∃ t, byteStep restart now b s = .next t := by
  cases hb : s.busy with
  | false => exact ⟨_, byteStep_idle restart now b s hb⟩
  | true => exact ⟨_, byteStep_inFrame restart now b s hb (Nat.lt_of_le_of_lt (Nat.succ_le_succ (h hb)) (by decide))⟩

/-- A frame that the guard leaves in progress is where it was. -/
theorem guard_cursor_le {s : State} (h : s.busy = true → s.cursor.val ≤ 24) :
    s.guard.busy = true → s.guard.cursor.val ≤ 24 := by
  rcases guard_cases s with ⟨-, e⟩ | ⟨-, -, e⟩ <;> rw [e]
  · exact h
  · exact fun hb => absurd hb Bool.false_ne_true

/-- Settles O41: only CURSOR past 25 could stop the byte step. -/
theorem pollCompletes : Obligations.PollCompletes := by
  intro s hi hc
  cases hq : s.rxq with
  | nil => exact ⟨_, exec_poll_noByte hi hq⟩
  | cons b rest =>
    rw [exec_poll s hi, poll_byte _ s b rest hq]
    exact byteStep_completes _ _ b (s := { s.guard with rxq := rest }) (guard_cursor_le hc)

/-! ## What POLL writes (10_state.md sections 2 and 3) -/

/-- Everything POLL can do when it answers a next state, by whether there is a byte and whether a frame is in progress in
time. -/
theorem exec_poll_next_cases {s t : State} (h : exec .poll s = .next t) :
    (s.rxq = [] ∧ t = s.guard.setResult 0) ∨
    (∃ b rest, s.rxq = b :: rest ∧ (s.busy = true ∧ s.inTime) ∧
      ∃ hroom : s.cursor.val + 1 < 26, t = (s.received b rest hroom).checkByte b) ∨
    (∃ b rest, s.rxq = b :: rest ∧ ¬(s.busy = true ∧ s.inTime) ∧
      t = ({ s.guard with rxq := rest } : State).idleByte s.clock b) := by
  obtain ⟨-, ⟨hempty, rfl⟩ | ⟨b, rest, hq, hbyte⟩⟩ := exec_poll_next h
  · exact .inl ⟨hempty, rfl⟩
  rcases guard_cases s with ⟨ht, e⟩ | ⟨hb, hlate, e⟩
  · rw [e] at hbyte ⊢
    rcases byteStep_next hbyte with ⟨hidle, rfl⟩ | ⟨hb, hroom, rfl⟩
    · exact .inr (.inr ⟨b, rest, hq, fun ⟨hb, _⟩ => Bool.false_ne_true (hidle.symm.trans hb), rfl⟩)
    · exact .inr (.inl ⟨b, rest, hq, ⟨hb, ht⟩, hroom, rfl⟩)
  · rw [e, byteStep_idle _ _ b _ rfl] at hbyte
    cases hbyte
    exact .inr (.inr ⟨b, rest, hq, fun ⟨_, ht⟩ => ht ⟨hb, hlate⟩, by rw [e]⟩)

/-- `t` has of `s` all that a POLL never writes. -/
structure State.KeptByPoll (s t : State) : Prop where
  ownAddr : t.ownAddr = s.ownAddr
  inited : t.inited = s.inited
  debug : t.debug = s.debug
  txbuf : t.txbuf = s.txbuf
  arg0 : t.arg0 = s.arg0
  arg1 : t.arg1 = s.arg1
  txdata : t.txdata = s.txdata
  clock : t.clock = s.clock
  baud : t.baud = s.baud
  inputs : t.inputs = s.inputs
  reads : t.reads = s.reads
  draws : t.draws = s.draws
  params : t.params = s.params

theorem exec_poll_next_kept {s t : State} (h : exec .poll s = .next t) : s.KeptByPoll t := by
  rcases exec_poll_next_cases h with ⟨-, rfl⟩ | ⟨b, rest, -, -, hroom, rfl⟩ | ⟨b, rest, -, -, rfl⟩
  · constructor <;> simp
  · constructor <;> simp
  · constructor <;> simp

/-- A delivery of `len` bytes stays below index `len`. -/
theorem deliver_outdata_above (s : State) {len i : Nat} (hi : i < 20) (hle : len ≤ i) :
    (s.deliver len).outdata[i] = s.outdata[i] := by
  have hbytes : (bytesFrom s.rxbuf Config.headerLen len).length ≤ len := List.length_take_le ..
  simp only [deliver_outdata, storeFrom_getElem, Nat.sub_zero]
  exact dif_neg fun ⟨_, hlt⟩ => by omega

theorem route_outdata_above (s : State) (len : Byte) {i : Nat} (hi : i < 20) (hle : (s.route len).result.toNat ≤ i) :
    (s.route len).outdata[i] = s.outdata[i] := by
  rcases route_cases s len with ⟨-, -, e⟩ | ⟨-, -, e⟩ | ⟨-, -, e⟩ | ⟨-, -, -, e⟩ | ⟨-, -, -, e⟩ <;>
    simp only [e] at hle ⊢
  · rfl
  · exact deliver_outdata_above ((s.log .brCastForward).forward len.toNat) hi hle
  · rfl
  · rfl
  · exact deliver_outdata_above (s.log .dataRecv) hi hle

theorem completeFrame_outdata_above (s : State) {i : Nat} (hi : i < 20) (hle : s.completeFrame.result.toNat ≤ i) :
    s.completeFrame.outdata[i] = s.outdata[i] := by
  rcases completeFrame_cases s with ⟨-, e⟩ | ⟨-, e⟩
  · simp [e]
  · simp only [e] at hle ⊢
    exact route_outdata_above (s.log .validPackage) s.rxbuf[4] hi hle

theorem checkByte_outdata_above (s : State) (b : Byte) {i : Nat} (hi : i < 20)
    (hle : (s.checkByte b).result.toNat ≤ i) : (s.checkByte b).outdata[i] = s.outdata[i] := by
  rcases checkByte_cases s b with ⟨-, -, e⟩ | ⟨-, e⟩ | ⟨-, -, e⟩ | ⟨-, e⟩ | ⟨-, -, -, -, e⟩
  on_goal 4 =>
    rw [e] at hle
    simp only [e, completeFrame_outdata_above s hi hle]
  all_goals simp [e]

/-- OUTDATA from index RESULT on is unchanged (R144, R145). -/
theorem exec_poll_next_outdata {s t : State} (h : exec .poll s = .next t) {i : Nat} (hi : i < 20)
    (hle : t.result.toNat ≤ i) : t.outdata[i] = s.outdata[i] := by
  rcases exec_poll_next_cases h with ⟨-, rfl⟩ | ⟨b, rest, -, -, hroom, rfl⟩ | ⟨b, rest, -, -, rfl⟩
  · simp
  · exact checkByte_outdata_above (s.received b rest hroom) b hi hle
  · simp

theorem idleByte_rxbuf_getElem (s : State) (now : Nat) (b : Byte) {i : Nat} (hi : i < 26) (hne : i ≠ 0) :
    (s.idleByte now b).rxbuf[i] = s.rxbuf[i] := by
  unfold State.idleByte
  split
  · rfl
  · exact Vector.getElem_set_ne (by decide) hi hne.symm

/-- Of RXBUF one byte at most is written, the next one of a frame in progress and in time, else the first (R134, R135). -/
theorem exec_poll_next_rxbuf {s t : State} (h : exec .poll s = .next t) {i : Nat} (hi : i < 26)
    (hne : i ≠ if s.busy = true ∧ s.inTime then s.cursor.val + 1 else 0) : t.rxbuf[i] = s.rxbuf[i] := by
  rcases exec_poll_next_cases h with ⟨-, rfl⟩ | ⟨b, rest, -, hframe, hroom, rfl⟩ | ⟨b, rest, -, hnoFrame, rfl⟩
  · simp
  · rw [if_pos hframe] at hne
    simp only [checkByte_rxbuf]
    exact Vector.getElem_set_ne hroom hi hne.symm
  · rw [if_neg hnoFrame] at hne
    rw [idleByte_rxbuf_getElem _ _ _ hi hne]
    simp

/-- Settles O40: the fields POLL keeps, OUTDATA above RESULT, and RXBUF but for the byte just stored. -/
theorem pollFrame : Obligations.PollFrame := by
  intro s t h
  obtain ⟨hown, hinited, hdebug, htxbuf, harg0, harg1, htxdata, hclock, hbaud, hinputs, hreads, hdraws, hparams⟩ :=
    exec_poll_next_kept h
  refine ⟨hown, hinited, hdebug, htxbuf, harg0, harg1, htxdata, hclock, hbaud, hinputs, hreads, hdraws, hparams,
    fun _ hi hle => exec_poll_next_outdata h hi hle, fun _ hi hne => exec_poll_next_rxbuf h hi hne, fun hq => ?_⟩
  rcases exec_poll_next_cases h with ⟨-, rfl⟩ | ⟨_, _, hcons, -⟩ | ⟨_, _, hcons, -⟩
  · simp
  · exact absurd (hq.symm.trans hcons) (List.cons_ne_nil _ _).symm
  · exact absurd (hq.symm.trans hcons) (List.cons_ne_nil _ _).symm

end Sys2Proof.Machine

namespace Sys2Proof.Machine

/-! ## The gate and DUMP, one equation per path (42_control.md R173, R176) -/

theorem exec_of_not_inited {i : Instr} {s : State} (hne : i ≠ .init) (hi : s.inited = false) :
    exec i s = .refused .notInitialised := by
  cases i with
  | init => exact absurd rfl hne
  | send => exact whenInitialised_false s _ hi
  | poll => exact whenInitialised_false s _ hi
  | isBusy => exact whenInitialised_false s _ hi
  | dump => exact whenInitialised_false s _ hi

/-- Settles O24: the gate stands at the head of each of the four. -/
theorem commandsNeedInit : Obligations.CommandsNeedInit := fun _ _ => exec_of_not_inited

theorem exec_dump_of_noDirection {s : State} (hi : s.inited = true) (hdir : s.dumpDirection = none) :
    exec .dump s = .refused .badOperand := by
  rw [exec, execDump, whenInitialised_true s _ hi, hdir]

theorem exec_dump_of_direction {s : State} {dir : Direction} (hi : s.inited = true) (hdir : s.dumpDirection = some dir) :
    exec .dump s = .next (s.logDump (s.bufferOf dir)) := by
  rw [exec, execDump, whenInitialised_true s _ hi, hdir]

/-- Below 2 ARG1 names a buffer. -/
theorem exists_dumpDirection {s : State} (hlt : s.arg1.toNat < 2) : ∃ dir, s.dumpDirection = some dir ∧
    s.bufferOf dir = if s.arg1 = 0 then s.txbuf else s.rxbuf := by
  by_cases h0 : s.arg1 = 0
  · exact ⟨.sendBuffer, if_pos h0, (if_pos h0).symm⟩
  · have h1 : s.arg1 = 1 := by
      apply BitVec.eq_of_toNat_eq
      have hpos : s.arg1.toNat ≠ 0 := fun h => h0 (BitVec.eq_of_toNat_eq h)
      change s.arg1.toNat = 1
      omega
    exact ⟨.receiveBuffer, (if_neg h0).trans (if_pos h1), (if_neg h0).symm⟩

/-- Settles O23: no direction, or a direction whose buffer is shown when DEBUG = 1. -/
theorem dumpOutcomes : Obligations.DumpOutcomes := by
  refine ⟨fun s hi hle => exec_dump_of_noDirection hi ((dumpDirection_eq_none s).2 hle), fun s hi hlt hd => ?_,
    fun s hi hlt hd => ?_⟩
  all_goals obtain ⟨dir, hdir, hbuf⟩ := exists_dumpDirection hlt
  · rw [exec_dump_of_direction hi hdir, logDump_silent hd]
  · rw [exec_dump_of_direction hi hdir, State.logDump, if_pos hd, hbuf]

/-! ## No step faults (93_implementation_defined.md I2) -/

/-- Of the commands only POLL can fault, and then CURSOR stood past 24. -/
theorem exec_ne_fault {i : Instr} {s : State} (hc : s.busy = true → s.cursor.val ≤ 24) (f : Fault) :
    exec i s ≠ .fault f := by
  by_cases hinit : i = .init
  · subst hinit
    simp only [exec, execInit]
    split_ifs <;> nofun
  cases hi : s.inited with
  | false => rw [exec_of_not_inited hinit hi]; nofun
  | true =>
    cases i with
    | init => exact absurd rfl hinit
    | send => rw [exec_send s hi]; split_ifs <;> nofun
    | poll =>
      obtain ⟨t, hnext⟩ := pollCompletes s hi hc
      rw [hnext]; nofun
    | isBusy => rw [exec_isBusy hi]; nofun
    | dump =>
      cases hdir : s.dumpDirection with
      | none => rw [exec_dump_of_noDirection hi hdir]; nofun
      | some dir => rw [exec_dump_of_direction hi hdir]; nofun

/-- A step that faults is a command that does. -/
theorem step_fault {s : State} {f : Fault} (h : step s = .fault f) :
    ∃ i rest, exec i { s with inputs := rest } = .fault f := by
  cases hin : s.inputs with
  | nil => rw [step_nil s hin] at h; cases h
  | cons i rest =>
    rw [step_cons s i rest hin] at h
    cases i with
    | arrive b => cases h
    | lose lost => cases h
    | clock c => cases h
    | access a =>
      cases a with
      | read off w =>
        simp only [handle, hostAccess, memRead] at h
        split at h
        · split at h <;> cases h
        · cases h
      | write off w v =>
        simp only [handle, hostAccess, memWrite] at h
        split at h
        · split at h
          · cases h
          · rename_i r _
            cases r with
            | cmd =>
              simp only [writeReg, execute] at h
              split at h
              · cases h
              · exact ⟨_, rest, h⟩
            | _ => cases h
        · cases h

/-- Settles O44: a busy Link with the invariant has CURSOR at most 24. -/
theorem stepNeverFaults : Obligations.StepNeverFaults := by
  intro s f inv h
  obtain ⟨i, rest, hfault⟩ := step_fault h
  exact exec_ne_fault (s := { s with inputs := rest }) inv.cursorLe f hfault

/-! ## The identity (10_state.md R23, R24) -/

/-- After INIT no command changes it. -/
theorem exec_next_identity {i : Instr} {s t : State} (hi : s.inited = true) (h : exec i s = .next t) :
    t.ownAddr = s.ownAddr ∧ t.inited = s.inited ∧ t.debug = s.debug := by
  cases i with
  | init => rw [exec_init_of_inited hi] at h; cases h
  | send => obtain ⟨-, rfl | rfl | rfl | ⟨-, rfl⟩ | ⟨-, -, rfl⟩⟩ := exec_send_next h <;> exact ⟨rfl, rfl, rfl⟩
  | isBusy => obtain ⟨-, rfl⟩ := exec_isBusy_next h; exact ⟨rfl, rfl, rfl⟩
  | dump =>
    obtain ⟨-, dir, -, rfl⟩ := exec_dump_next h
    exact ⟨logDump_ownAddr s _, logDump_inited s _, logDump_debug s _⟩
  | poll =>
    have hkept := exec_poll_next_kept h
    exact ⟨hkept.ownAddr, hkept.inited, hkept.debug⟩

/-- Settles O45: an event or access writes none of the three, and `exec_next_identity` covers the commands. -/
theorem identityIsImmutable : Obligations.IdentityIsImmutable := by
  intro s t hi h
  rcases step_next_event_or_command h with ⟨heq, -⟩ | ⟨i, rest, -, hcommand⟩
  · rw [heq]
    exact ⟨rfl, hi, rfl⟩
  · obtain ⟨hown, hinited, hdebug⟩ := exec_next_identity (s := { s with inputs := rest }) hi hcommand
    exact ⟨hown, hinited.trans hi, hdebug⟩

/-! ## BUSY (10_state.md R26) -/

/-- Every command but POLL keeps BUSY. -/
theorem exec_next_busy {i : Instr} {s t : State} (hne : i ≠ .poll) (h : exec i s = .next t) : t.busy = s.busy := by
  cases i with
  | init => obtain ⟨-, -, ⟨-, rfl⟩ | ⟨-, rfl⟩⟩ := exec_init_next h <;> rfl
  | send => exact exec_send_next_busy h
  | isBusy => obtain ⟨-, rfl⟩ := exec_isBusy_next h; rfl
  | dump =>
    obtain ⟨-, dir, -, rfl⟩ := exec_dump_next h
    exact logDump_busy s _
  | poll => exact absurd rfl hne

/-- An idle POLL that ends busy took START1 (41_receive.md R134). -/
theorem exec_poll_next_starts {s t : State} (h : exec .poll s = .next t) (hidle : s.busy = false)
    (hbusy : t.busy = true) :
    (∃ q, s.rxq = 0xEF :: q ∧ t.rxq = q) ∧ t.cursor.val = 0 ∧ t.ts = s.clock := by
  have hguard : s.guard = s := guard_inTime s (by simp [hidle])
  rcases exec_poll_next_cases h with ⟨-, rfl⟩ | ⟨_, _, -, ⟨hframe, -⟩, -⟩ | ⟨b, q, hq, -, rfl⟩
  · rw [hguard] at hbusy
    exact absurd (hidle.symm.trans hbusy) Bool.false_ne_true
  · exact absurd (hidle.symm.trans hframe) Bool.false_ne_true
  · rw [hguard, State.idleByte] at hbusy ⊢
    split at hbusy
    · exact absurd (hidle.symm.trans hbusy) Bool.false_ne_true
    · rename_i hstart
      rw [if_neg hstart]
      exact ⟨⟨q, hq.trans (congrArg (· :: q) (not_not.1 hstart)), rfl⟩, rfl, rfl⟩

/-- Settles O46: no event or access and no command but POLL writes BUSY, and of a POLL `exec_poll_next_starts` says it. -/
theorem onlyStart1SetsBusy : Obligations.OnlyStart1SetsBusy := by
  intro s t h hidle hbusy
  rcases step_next_event_or_command h with ⟨heq, -⟩ | ⟨i, rest, hin, hcommand⟩
  · rw [heq] at hbusy
    exact absurd (hidle.symm.trans hbusy) Bool.false_ne_true
  · have hpoll : i = .poll := by
      by_contra hother
      exact absurd (hidle.symm.trans ((exec_next_busy hother hcommand).symm.trans hbusy)) Bool.false_ne_true
    subst hpoll
    exact ⟨⟨rest, hin⟩, exec_poll_next_starts (s := { s with inputs := rest }) hcommand hidle hbusy⟩

/-! ## The operands and the host's side (20_memory.md R61) -/

/-- Settles O49: each command's outcomes write none of the six. -/
theorem commandsKeepOperands : Obligations.CommandsKeepOperands := by
  intro i s t h
  cases i with
  | init => obtain ⟨-, -, ⟨-, rfl⟩ | ⟨-, rfl⟩⟩ := exec_init_next h <;> exact ⟨rfl, rfl, rfl, rfl, rfl, rfl⟩
  | send =>
    obtain ⟨-, rfl | rfl | rfl | ⟨-, rfl⟩ | ⟨-, -, rfl⟩⟩ := exec_send_next h <;> exact ⟨rfl, rfl, rfl, rfl, rfl, rfl⟩
  | isBusy => obtain ⟨-, rfl⟩ := exec_isBusy_next h; exact ⟨rfl, rfl, rfl, rfl, rfl, rfl⟩
  | dump =>
    obtain ⟨-, dir, -, rfl⟩ := exec_dump_next h
    exact ⟨logDump_arg0 s _, logDump_arg1 s _, logDump_txdata s _, logDump_clock s _, logDump_inputs s _,
      logDump_reads s _⟩
  | poll =>
    have hkept := exec_poll_next_kept h
    exact ⟨hkept.arg0, hkept.arg1, hkept.txdata, hkept.clock, hkept.inputs, hkept.reads⟩

/-! ## The output streams (10_state.md R42, 60_exceptions.md R214, R216) -/

/-- `t` has what `s` put out to the transport and to the log, and possibly more. -/
def State.OutputsExtend (s t : State) : Prop := s.txout <+: t.txout ∧ s.logout <+: t.logout

theorem State.OutputsExtend.refl (s : State) : s.OutputsExtend s := ⟨List.prefix_rfl, List.prefix_rfl⟩

theorem State.OutputsExtend.trans {s t u : State} (h : s.OutputsExtend t) (h' : t.OutputsExtend u) :
    s.OutputsExtend u :=
  ⟨h.1.trans h'.1, h.2.trans h'.2⟩

theorem outputsExtend_log (s : State) (t : Tag) : s.OutputsExtend (s.log t) := by
  refine ⟨List.prefix_rfl, ?_⟩
  rw [log_logout]
  split
  · exact List.prefix_append s.logout _
  · exact List.prefix_rfl

theorem outputsExtend_logDump (s : State) (buf : Vector Byte Config.maxFrame) : s.OutputsExtend (s.logDump buf) := by
  unfold State.logDump
  split
  · exact ⟨List.prefix_rfl, List.prefix_append s.logout _⟩
  · exact .refl s

/-- To transmit or to forward is to append to TXOUT. -/
theorem outputsExtend_of_append {s t : State} {bs : List Byte} (htx : t.txout = s.txout ++ bs)
    (hlog : t.logout = s.logout) : s.OutputsExtend t :=
  ⟨htx ▸ List.prefix_append s.txout bs, hlog ▸ List.prefix_rfl⟩

theorem outputsExtend_setResult (s : State) (v : Byte) : s.OutputsExtend (s.setResult v) := .refl s

theorem outputsExtend_transmit (s : State) : s.OutputsExtend s.transmit :=
  outputsExtend_of_append (transmit_txout s) (transmit_logout s)

theorem outputsExtend_abort (s : State) (r : AbortReason) : s.OutputsExtend (s.abort r) := outputsExtend_log s r.tag

theorem outputsExtend_guard (s : State) : s.OutputsExtend s.guard := by
  rcases guard_cases s with ⟨-, e⟩ | ⟨-, -, e⟩ <;> rw [e]
  · exact .refl s
  · exact outputsExtend_abort s .timeout

theorem outputsExtend_route (s : State) (len : Byte) : s.OutputsExtend (s.route len) := by
  rcases route_cases s len with ⟨-, -, e⟩ | ⟨-, -, e⟩ | ⟨-, -, e⟩ | ⟨-, -, -, e⟩ | ⟨-, -, -, e⟩ <;> rw [e]
  · exact outputsExtend_log s .brCastEnd
  · exact (outputsExtend_log s .brCastForward).trans (outputsExtend_of_append rfl rfl)
  · exact outputsExtend_log s .badCycle
  · exact (outputsExtend_log s .dataBypass).trans (outputsExtend_of_append rfl rfl)
  · exact outputsExtend_log s .dataRecv

theorem outputsExtend_completeFrame (s : State) : s.OutputsExtend s.completeFrame := by
  rcases completeFrame_cases s with ⟨-, e⟩ | ⟨-, e⟩ <;> rw [e]
  · exact outputsExtend_abort s .crcFail
  · exact (outputsExtend_log s .validPackage).trans (outputsExtend_route _ _)

theorem outputsExtend_checkByte (s : State) (b : Byte) : s.OutputsExtend (s.checkByte b) := by
  rcases checkByte_cases s b with ⟨-, -, e⟩ | ⟨-, e⟩ | ⟨-, -, e⟩ | ⟨-, e⟩ | ⟨-, -, -, -, e⟩ <;> rw [e]
  · exact outputsExtend_abort s .noStart2
  · exact outputsExtend_of_append (bs := []) (by simp) (by simp)
  · exact outputsExtend_abort s .tooLong
  · exact outputsExtend_completeFrame s
  · exact .refl s

theorem outputsExtend_idleByte (s : State) (now : Nat) (b : Byte) : s.OutputsExtend (s.idleByte now b) := by
  unfold State.idleByte
  split
  · exact outputsExtend_log s .noStart1
  · exact .refl s

theorem exec_next_outputsExtend {i : Instr} {s t : State} (h : exec i s = .next t) : s.OutputsExtend t := by
  cases i with
  | init => obtain ⟨-, -, ⟨-, rfl⟩ | ⟨-, rfl⟩⟩ := exec_init_next h <;> exact .refl s
  | send =>
    have hstart := outputsExtend_log s .startSending
    obtain ⟨-, rfl | rfl | rfl | ⟨-, rfl⟩ | ⟨-, -, rfl⟩⟩ := exec_send_next h
    · exact hstart.trans (outputsExtend_log _ .lengthErr)
    · exact hstart.trans (outputsExtend_log _ .addrErr)
    · exact hstart.trans (outputsExtend_log _ .sameAddrErr)
    · exact hstart
    · exact (hstart.trans (outputsExtend_transmit _)).trans (outputsExtend_setResult _ _)
  | isBusy => obtain ⟨-, rfl⟩ := exec_isBusy_next h; exact .refl s
  | dump =>
    obtain ⟨-, dir, -, rfl⟩ := exec_dump_next h
    exact outputsExtend_logDump s _
  | poll =>
    rcases exec_poll_next_cases h with ⟨-, rfl⟩ | ⟨b, rest, -, -, hroom, rfl⟩ | ⟨b, rest, -, -, rfl⟩
    · exact outputsExtend_guard s
    · exact outputsExtend_checkByte (s.received b rest hroom) b
    · exact (outputsExtend_guard s).trans (outputsExtend_idleByte { s.guard with rxq := rest } s.clock b)

/-- Settles O47: an event or access writes no output but `reads`, and a command appends to the others. -/
theorem outputsOnlyGrow : Obligations.OutputsOnlyGrow := by
  intro s t h
  rcases step_next_event_or_command h with ⟨heq, -, hreads⟩ | ⟨i, rest, -, hcommand⟩
  · refine ⟨?_, ?_, hreads⟩ <;> rw [heq]
  · obtain ⟨htxout, hlogout⟩ := exec_next_outputsExtend hcommand
    obtain ⟨-, -, -, -, -, hreads⟩ := commandsKeepOperands i _ t hcommand
    exact ⟨htxout, hlogout, hreads ▸ List.prefix_rfl⟩

/-! ## Commands that ignore RXQ, CLOCK and TS (40_send.md R118, 70_reset_and_hazards.md R243) -/

/-- The state with other contents of RXQ, CLOCK and TS. -/
def State.withQueueAndClock (q : List Byte) (clk ts : Nat) (s : State) : State :=
  { s with rxq := q, clock := clk, ts := ts }

section WithQueueAndClock

variable {q : List Byte} {clk ts : Nat} (s : State)

theorem setResult_withQueueAndClock (v : Byte) :
    (s.setResult v).withQueueAndClock q clk ts = (s.withQueueAndClock q clk ts).setResult v := rfl

theorem log_withQueueAndClock (t : Tag) :
    (s.log t).withQueueAndClock q clk ts = (s.withQueueAndClock q clk ts).log t := rfl

theorem transmit_withQueueAndClock :
    s.transmit.withQueueAndClock q clk ts = (s.withQueueAndClock q clk ts).transmit := by
  have hframe : (s.withQueueAndClock q clk ts).sendFrame = s.sendFrame := rfl
  have hlen : (s.withQueueAndClock q clk ts).sendLen = s.sendLen := rfl
  simp only [State.transmit, hframe, hlen]
  simp only [State.withQueueAndClock, State.txWriteAll]

theorem logDump_withQueueAndClock (buf : Vector Byte Config.maxFrame) :
    (s.logDump buf).withQueueAndClock q clk ts = (s.withQueueAndClock q clk ts).logDump buf :=
  apply_ite (State.withQueueAndClock q clk ts) _ _ _

/-- The gate looks at INITED only. -/
theorem mapNext_withQueueAndClock_whenInitialised {k k' : Result}
    (h : mapNext (State.withQueueAndClock q clk ts) k = k') :
    mapNext (State.withQueueAndClock q clk ts) (whenInitialised s k) =
      whenInitialised (s.withQueueAndClock q clk ts) k' := by
  rw [← h]
  exact apply_ite (mapNext (State.withQueueAndClock q clk ts)) _ _ _

/-- Of the four commands no test reads one of the three fields, and no branch writes one. -/
theorem mapNext_withQueueAndClock_exec {i : Instr} (hne : i ≠ .poll) :
    mapNext (State.withQueueAndClock q clk ts) (exec i s) = exec i (s.withQueueAndClock q clk ts) := by
  cases i with
  | init =>
    simp only [exec, execInit, apply_ite (mapNext (State.withQueueAndClock q clk ts)), mapNext_next, mapNext_refused]
    rfl
  | send =>
    refine mapNext_withQueueAndClock_whenInitialised s ?_
    simp only [apply_ite (mapNext (State.withQueueAndClock q clk ts)), mapNext_next, setResult_withQueueAndClock,
      transmit_withQueueAndClock, log_withQueueAndClock]
    rfl
  | isBusy => exact mapNext_withQueueAndClock_whenInitialised s rfl
  | dump =>
    refine mapNext_withQueueAndClock_whenInitialised s ?_
    have hdir : (s.withQueueAndClock q clk ts).dumpDirection = s.dumpDirection := rfl
    rw [hdir]
    cases s.dumpDirection with
    | none => rfl
    | some dir => exact congrArg Host.Outcome.next (logDump_withQueueAndClock s _)
  | poll => exact absurd rfl hne

end WithQueueAndClock

/-- Settles O50: other contents of the three fields pass through every command but POLL. -/
theorem onlyPollLooksAtQueueAndClock : Obligations.OnlyPollLooksAtQueueAndClock :=
  fun _ s _ _ _ hne => (mapNext_withQueueAndClock_exec s hne).symm

end Sys2Proof.Machine

namespace Sys2Proof.Machine

/-! ## A whole frame at an idle node (41_receive.md R134 to R145) -/

/-- `r` one byte before the end of a frame that began at its clock: the body is taken, the checksum byte is next in RXQ. -/
def State.heard (r : State) (dest src len : Byte) (payload queue : List Byte) : State :=
  r.hearing (bcastFlag dest src) (r.bypassFlag dest src) (frameBody dest src len payload)
    (chk (frameBody dest src len payload) :: queue)

section Heard

variable {r : State} {dest src len : Byte} {payload queue : List Byte}

theorem heard_rxLen : (r.heard dest src len payload queue).rxLen = len.toNat := hearing_body_rxLen

theorem ofNat_heard_rxLen : BitVec.ofNat 8 (r.heard dest src len payload queue).rxLen = len := by
  rw [heard_rxLen, BitVec.ofNat_toNat, BitVec.setWidth_eq]

theorem heard_rxSrc : (r.heard dest src len payload queue).rxSrc = src :=
  hearing_rxbuf_getElem (by rw [frameBody_length]; omega) (by decide)

variable (hpayload : payload.length = len.toNat)
include hpayload

/-- What a delivery leaves in OUTDATA is the payload, and above it what was there (R144). -/
theorem heard_outdata {outdata' : Vector Byte 20}
    (hcells : ∀ (i : Nat) (hi : i < 20), outdata'[i] =
      if i < (r.heard dest src len payload queue).rxLen
      then (r.heard dest src len payload queue).rxbuf[5 + i]'(by change _ < 26; omega)
      else (r.heard dest src len payload queue).outdata[i]) (i : Nat) (hi : i < 20) :
    outdata'[i] = if h : i < payload.length then payload[i] else r.outdata[i] := by
  rw [hcells i hi, heard_rxLen, ← hpayload]
  split
  · have hbyte : (frameBody dest src len payload)[5 + i]'(by rw [frameBody_length]; omega) = payload[i] := by
      simp only [Nat.add_comm 5 i]
      rfl
    rw [← hbyte]
    exact hearing_rxbuf_getElem _ _
  · rfl

variable (hlen : len.toNat ≤ 20)
include hlen

theorem heard_cursor : (r.heard dest src len payload queue).cursor.val =
    4 + (r.heard dest src len payload queue).rxLen := by
  rw [heard_rxLen, ← hpayload]
  exact hearing_body_cursor (by omega)

theorem heard_room : (r.heard dest src len payload queue).cursor.val + 1 < 26 := by
  rw [heard_cursor hpayload hlen, heard_rxLen]
  omega

/-- The bytes the checksum byte is compared with are the frame's body. -/
theorem heard_body : (r.heard dest src len payload queue).rxbuf.toList.take
    (5 + (r.heard dest src len payload queue).rxLen) = frameBody dest src len payload := by
  have hlength : (frameBody dest src len payload).length = 5 + len.toNat := by rw [frameBody_length, hpayload]
  rw [heard_rxLen, ← hlength]
  exact hearing_rxbuf_take (by omega)

/-- What forwarding writes is the frame (R143). -/
theorem heard_frame : (r.heard dest src len payload queue).rxbuf.toList.take
    (5 + (r.heard dest src len payload queue).rxLen) ++ [chk (frameBody dest src len payload)] =
      frame dest src len payload := by
  rw [heard_body hpayload hlen, frame]

variable (hi : r.inited = true) (hb : r.busy = false) (hq : r.rxq = frame dest src len payload ++ queue)
include hi hb hq

/-- The frame's POLLs are those of its body and one that takes the checksum byte. -/
theorem polls_frame {t : State} (hlast : exec .poll (r.heard dest src len payload queue) = .next t) :
    r.polls (6 + len.toNat) = .next t := by
  rw [frame, List.append_assoc] at hq
  calc r.polls (6 + len.toNat)
    _ = r.polls (5 + len.toNat + 1) := by rw [Nat.add_right_comm]
    _ = (r.heard dest src len payload queue).polls 1 := polls_add 1 (polls_frameBody hi hlen hpayload hb hq)
    _ = .next t := polls_succ 0 hlast

/-- A frame addressed to the node, from another node, is delivered. -/
theorem polls_frame_unicast (hdest : dest = r.ownAddr) (hsrc : src ≠ r.ownAddr) :
    ∃ t, r.polls (6 + len.toNat) = .next t ∧ t.result = len ∧ t.rxq = queue ∧ t.busy = false ∧ t.txout = r.txout ∧
      ∀ (i : Nat) (hi : i < 20), t.outdata[i] = if h : i < payload.length then payload[i] else r.outdata[i] := by
  have hbcast : bcastFlag dest src = false := decide_eq_false fun ⟨h1, h2⟩ => hsrc (by rw [h2, ← h1, hdest])
  have hbypass : r.bypassFlag dest src = false := decide_eq_false fun ⟨_, hother⟩ => hother hdest
  obtain ⟨outdata', hcells, hlast⟩ := pollDeliversUnicast (r.heard dest src len payload queue) _ queue
    (heard_room hpayload hlen) hi rfl hearing_inTime rfl (heard_cursor hpayload hlen)
    (congrArg chk (heard_body hpayload hlen).symm) (heard_rxSrc.trans_ne hsrc) hbcast hbypass
  exact ⟨_, polls_frame hpayload hlen hi hb hq hlast, ofNat_heard_rxLen, rfl, rfl, rfl,
    heard_outdata hpayload hcells⟩

end Heard

/-- Settles O54: whatever the flags, the row of R141 for the node's own SRC takes the last byte. -/
theorem ownFrameIsNotRelayed : Obligations.OwnFrameIsNotRelayed := by
  intro r dest len payload rest hi hb hpayload hlen hq
  have hlast := pollDropsLoopBack (r.heard dest r.ownAddr len payload rest) _ rest
    (heard_room hpayload hlen) hi rfl hearing_inTime rfl (heard_cursor hpayload hlen)
    (congrArg chk (heard_body hpayload hlen).symm) heard_rxSrc
  exact ⟨_, polls_frame hpayload hlen hi hb hq hlast, rfl, rfl, rfl, rfl, rfl⟩

/-- Settles O52: DEST classifies the frame as a bypass frame, and the bytes forwarded are the frame's. -/
theorem bypassFrameIsRelayedVerbatim : Obligations.BypassFrameIsRelayedVerbatim := by
  intro r dest src len payload rest hi hb hpayload hlen hdest hsrc hnot hq
  have hlast := pollForwardsBypass (r.heard dest src len payload rest) _ rest
    (heard_room hpayload hlen) hi rfl hearing_inTime rfl (heard_cursor hpayload hlen)
    (congrArg chk (heard_body hpayload hlen).symm) (heard_rxSrc.trans_ne hsrc)
    (decide_eq_false hnot) (decide_eq_true ⟨hnot, hdest⟩)
  rw [heard_frame hpayload hlen] at hlast
  exact ⟨_, polls_frame hpayload hlen hi hb hq hlast, rfl, rfl, rfl, rfl, rfl⟩

/-- Settles O53: DEST and SRC classify the frame as a broadcast, which is forwarded as in O52 and delivered. -/
theorem broadcastIsRelayedAndDelivered : Obligations.BroadcastIsRelayedAndDelivered := by
  intro r len payload rest hi hb hpayload hlen hown hq
  obtain ⟨outdata', hcells, hlast⟩ := pollRelaysBroadcast (r.heard 0x01 0x01 len payload rest) _ rest
    (heard_room hpayload hlen) hi rfl hearing_inTime rfl (heard_cursor hpayload hlen)
    (congrArg chk (heard_body hpayload hlen).symm) (heard_rxSrc.trans_ne hown.symm) rfl
  rw [heard_frame hpayload hlen] at hlast
  exact ⟨_, polls_frame hpayload hlen hi hb hq hlast, rfl, ofNat_heard_rxLen, rfl, rfl,
    heard_outdata hpayload hcells⟩

/-! ## What a SEND puts on the line (40_send.md R113, R114) -/

/-- Settles O20: BUSY_RESULT lies in 0x01..0xFC, where none of the four codes lies. -/
theorem busyResultIsNoStatusCode : Obligations.BusyResultIsNoStatusCode := by
  obtain ⟨hlo, hhi⟩ := busyResult_toNat
  have hne {code : Byte} (hcode : code.toNat = 0 ∨ 0xFC < code.toNat) : Config.busyResult ≠ code := by
    rintro rfl
    omega
  exact ⟨hne (by decide), hne (by decide), hne (by decide), hne (by decide)⟩

/-- A SEND that reports 0 has sent its frame: the other outcomes report one of the three codes or BUSY_RESULT. -/
theorem exec_send_next_sent {s t : State} (h : exec .send s = .next t) (hzero : t.result = 0) :
    s.sendLen ≤ 20 ∧ t.txout = s.txout ++ s.sendFrame := by
  obtain ⟨-, rfl | rfl | rfl | ⟨-, rfl⟩ | ⟨-, hlen, rfl⟩⟩ := exec_send_next h
  · cases hzero
  · cases hzero
  · cases hzero
  · exact absurd hzero busyResultIsNoStatusCode.1
  · rw [setResult_txout, transmit_eq (s := s.log .startSending) hlen]
    exact ⟨hlen, rfl⟩

/-- Settles O51: what was sent is a frame to the receiving node from another one, so it is delivered. -/
theorem sendThenReceiveRoundTrip : Obligations.SendThenReceiveRoundTrip := by
  intro a a' r sent rest _ hsend hzero hout hi hb hdest hsrc hq
  obtain ⟨hlen, hsent⟩ := exec_send_next_sent hsend hzero
  have hframe : sent = frame a.arg0 a.ownAddr a.arg1 (a.txdata.toList.take a.arg1.toNat) := by
    rw [← sendFrame_eq_frame]
    exact List.append_cancel_left (hout.symm.trans hsent)
  have hlen' : a.arg1.toNat ≤ 20 := hlen
  have hpayload : (a.txdata.toList.take a.arg1.toNat).length = a.arg1.toNat := by simpa using hlen'
  rw [hframe] at hq
  obtain ⟨t, hpolls, hresult, hrest, hidle, htxout, hcells⟩ :=
    polls_frame_unicast hpayload hlen' hi hb hq hdest.symm (hdest ▸ hsrc)
  refine ⟨t, hpolls, hresult, hrest, hidle, htxout, fun i hi20 => ?_⟩
  rw [hcells i hi20]
  simp only [hpayload, List.getElem_take, Vector.getElem_toList]
  split <;> rfl

end Sys2Proof.Machine

namespace Sys2Proof.Machine

/-! ## The opcode map and the register map (30_encoding.md R80 to R86, 20_memory.md R55) -/

/-- 0x00 and every byte from 0x06 on is reserved (R84). -/
theorem decode_reserved {op : Byte} (h : op.toNat = 0 ∨ 6 ≤ op.toNat) : decode op = .error .reservedOpcode := by
  unfold decode
  split
  on_goal 6 => rfl
  all_goals omega

theorem decode_opcode (i : Instr) : decode i.opcode = .ok i := by cases i <;> rfl

/-- Settles O1: the five opcodes compute; the rest is `decode_reserved`. -/
theorem decodeFollowsOpcodeMap : Obligations.DecodeFollowsOpcodeMap :=
  ⟨rfl, rfl, rfl, rfl, rfl, fun _ => decode_reserved⟩

/-- Settles O2: the round trip is `decode_opcode` on the one byte, and `eq_opcode_of_decode` reads the map backwards. -/
theorem decodeEncodeRoundTrip : Obligations.DecodeEncodeRoundTrip := by
  refine ⟨fun i rest _ => ?_, fun op i h => ?_⟩
  · rw [encode, List.singleton_append, decodeBytes, decode_opcode]
  · rw [encode, eq_opcode_of_decode h]

theorem atOffset_offset (r : Reg) : Reg.atOffset r.offset = some r := by
  cases r with
  | txdata i => exact (by decide : ∀ i : Fin 20, Reg.atOffset (Reg.txdata i).offset = some (.txdata i)) i
  | outdata i => exact (by decide : ∀ i : Fin 20, Reg.atOffset (Reg.outdata i).offset = some (.outdata i)) i
  | _ => rfl

theorem atOffset_eq_none_iff (off : Byte) : Reg.atOffset off = none ↔
    (0x06 ≤ off.toNat ∧ off.toNat ≤ 0x0F) ∨ (0x24 ≤ off.toNat ∧ off.toNat ≤ 0x2F) ∨ 0x44 ≤ off.toNat := by
  unfold Reg.atOffset
  split
  -- Past the six single registers an offset lies in TXDATA, in OUTDATA, or is reserved.
  on_goal 7 =>
    rename_i h0 h1 h2 h3 h4 h5
    rw [imp_false] at h0 h1 h2 h3 h4 h5
    split
    · exact iff_of_false nofun (by omega)
    · split
      · exact iff_of_false nofun (by omega)
      · exact iff_of_true rfl (by omega)
  all_goals exact iff_of_false nofun (by omega)

/-- Settles O3: the map forwards, backwards, and where it leads to no register. -/
theorem registerMapIsExact : Obligations.RegisterMapIsExact :=
  ⟨atOffset_offset, fun _ _ h => (eq_offset_of_atOffset h).symm, atOffset_eq_none_iff⟩

/-! ## One host access (20_memory.md R56, R58, R59) -/

section HostAccess

variable {s : State} {rest : List Input}

theorem step_read {off : Byte} {r : Reg} (hin : s.inputs = .access (.read off 1) :: rest)
    (hoff : Reg.atOffset off = some r) :
    step s = .next { s with inputs := rest, reads := s.reads ++ [s.readReg r] } := by
  rw [step_cons s _ rest hin, handle, hostAccess, if_pos rfl, memRead, hoff]
  cases r <;> rfl

theorem handle_write {off v : Byte} {r : Reg} (s : State) (hoff : Reg.atOffset off = some r) :
    handle (.access (.write off 1 v)) s = writeReg r v s := by
  rw [handle, hostAccess, if_pos rfl, memWrite, hoff]

theorem step_write {off v : Byte} {r : Reg} (hin : s.inputs = .access (.write off 1 v) :: rest)
    (hoff : Reg.atOffset off = some r) : step s = writeReg r v { s with inputs := rest } := by
  rw [step_cons s _ rest hin, handle_write _ hoff]

theorem step_command {op : Byte} {i : Instr} (hin : s.inputs = .access (.write 0x00 1 op) :: rest)
    (hop : decode op = .ok i) : step s = exec i { s with inputs := rest } := by
  rw [step_write hin (atOffset_offset .cmd), writeReg, execute, hop]

end HostAccess

/-- Settles O4: offset 0x00 is CMD's, so the write decodes and runs. -/
theorem stepRunsDecodedCommand : Obligations.StepRunsDecodedCommand := fun _ _ _ _ => step_command

/-- A table word of 8 bits is its one byte. -/
theorem decode_of_decodeTableWord {w : Nat} {i : Instr} (h : decodeTableWord 8 w = some i) :
    decode (BitVec.ofNat 8 w) = .ok i := by
  have hbytes : tableBytes 8 w = [BitVec.ofNat 8 w] := by simp [tableBytes]
  rw [decodeTableWord, hbytes, decodeBytes] at h
  cases hop : decode (BitVec.ofNat 8 w) with
  | error e => simp [hop] at h
  | ok j => simpa [hop] using h

/-- Settles O5: the word is one byte, placed as a one-byte write to CMD. -/
theorem fetchedWordRuns : Obligations.FetchedWordRuns := by
  intro s w i _ hdecode
  exact step_command (s := s.withFetchWord 8 w) rfl (decode_of_decodeTableWord hdecode)

/-- Settles O6: each refusal is one branch on the way from the access to its register. -/
theorem hostAccessRefusals : Obligations.HostAccessRefusals := by
  refine ⟨fun s off w rest hw hin => ?_, fun s off v w rest hw hin => ?_, fun s off rest hoff hin => ?_,
    fun s off v rest hoff hin => ?_, fun s r v rest hr hin => ?_, fun s op rest hop hin => ?_⟩
  · rw [step_cons s _ rest hin, handle, hostAccess, if_neg hw]
  · rw [step_cons s _ rest hin, handle, hostAccess, if_neg hw]
  · rw [step_cons s _ rest hin, handle, hostAccess, if_pos rfl, memRead, hoff]
  · rw [step_cons s _ rest hin, handle, hostAccess, if_pos rfl, memWrite, hoff]
  · rw [step_write hin (atOffset_offset r)]
    cases r with
    | result => rfl
    | status => rfl
    | ownaddr => rfl
    | outdata i => rfl
    | _ => cases hr
  · rw [step_write hin (atOffset_offset .cmd), writeReg, execute, decode_reserved hop]

/-- Settles O7: the three offsets lead to ARG0, ARG1 and TXDATA[i]. -/
theorem hostWriteSetsOperand : Obligations.HostWriteSetsOperand :=
  ⟨fun _ _ _ hin => step_write hin (atOffset_offset .arg0), fun _ _ _ hin => step_write hin (atOffset_offset .arg1),
    fun _ i _ _ hin => step_write hin (atOffset_offset (.txdata i))⟩

/-- Settles O8: `State.readReg` is the statement's table. -/
theorem hostReadReturnsRegister : Obligations.HostReadReturnsRegister := by
  intro s off r rest hin hoff
  rw [step_read hin hoff]
  cases r <;> rfl

theorem flagByte_getLsbD (b : Bool) (k : Nat) : (flagByte b).getLsbD k = (decide (k = 0) && b) := by
  cases b <;> simp [flagByte]

/-- The three flags stand in bits 0, 1 and 2 (R35). -/
theorem statusByte_getLsbD (s : State) (k : Nat) : s.statusByte.getLsbD k =
    (decide (k = 0) && s.busy || decide (k = 1) && s.inited || decide (k = 2) && s.debug) := by
  simp only [State.statusByte, BitVec.getLsbD_or, BitVec.getLsbD_shiftLeft, flagByte_getLsbD]
  match k with
  | 0 => simp
  | 1 => simp
  | 2 => simp
  | k + 3 => simp

/-- Settles O10: bit by bit by `statusByte_getLsbD`. -/
theorem statusMirrorsFlags : Obligations.StatusMirrorsFlags := by
  intro s
  refine ⟨statusByte_getLsbD_zero s, ?_, ?_, fun k hk => ?_⟩
  · rw [statusByte_getLsbD]
    simp
  · rw [statusByte_getLsbD]
    simp
  · have h0 : k ≠ 0 := by omega
    have h1 : k ≠ 1 := by omega
    have h2 : k ≠ 2 := by omega
    rw [statusByte_getLsbD]
    simp [h0, h1, h2]

/-! ## Pseudo-instructions (30_encoding.md R101) -/

/-- A line's inputs are fed one at a time. -/
theorem feed_cons {s t : State} {i : Input} (is : List Input) (h : handle i s = .next t) : feed (i :: is) s = feed is t := by
  have hstep : step { s with inputs := i :: s.inputs } = .next t := h
  rw [feed, hstep]

/-- The write of an opcode, last on its line, runs the command. -/
theorem feed_command (i : Instr) (s : State) : feed [writeInput .cmd i.opcode] s = exec i s := by
  have hstep : step { s with inputs := writeInput .cmd i.opcode :: s.inputs } = exec i s :=
    step_command (rest := s.inputs) rfl (decode_opcode i)
  rw [feed, hstep]
  cases exec i s <;> rfl

theorem storeFrom_cons {n : Nat} (buf : Vector Byte n) {start : Nat} (b : Byte) (bs : List Byte) (h : start < n) :
    storeFrom buf start (b :: bs) = storeFrom (buf.set start b h) (start + 1) bs := by
  have hset : buf.setIfInBounds start b = buf.set start b h := by
    ext i hi
    rw [Vector.getElem_setIfInBounds, Vector.getElem_set]
  rw [storeFrom, hset]

/-- The writes of LOADTX from index `start` on store its bytes there. -/
theorem feed_loadtx (bs : List Byte) (start : Nat) (s : State) (hfits : start + bs.length ≤ 20) :
    feed ((bs.zipIdx start).map fun p => .access (.write (BitVec.ofNat 8 (0x10 + p.2)) 1 p.1)) s =
      .next { s with txdata := storeFrom s.txdata start bs } := by
  induction bs generalizing start s with
  | nil => rfl
  | cons b bs ih =>
    rw [List.length_cons] at hfits
    have hlt : start < 20 := by omega
    have hwrite : handle (.access (.write (BitVec.ofNat 8 (0x10 + start)) 1 b)) s =
        .next { s with txdata := s.txdata.set start b hlt } :=
      handle_write s (atOffset_offset (.txdata ⟨start, hlt⟩))
    rw [List.zipIdx_cons, List.map_cons, feed_cons _ hwrite, ih (start + 1) _ (by omega), storeFrom_cons _ _ _ hlt]

/-- Settles O9: the operand writes are single steps before `feed_command`, and LOADTX is `feed_loadtx` from index 0. -/
theorem pseudoInstructionsRunTheirCommand : Obligations.PseudoInstructionsRunTheirCommand := by
  refine ⟨fun s a d => ?_, fun s dest len => ?_, feed_command .poll, feed_command .isBusy, fun s dir => ?_,
    fun s bs hfits => ⟨storeFrom s.txdata 0 bs, fun i hi => ?_, ?_⟩⟩
  · exact feed_command .init { s with arg0 := a, arg1 := d }
  · exact feed_command .send { s with arg0 := dest, arg1 := len }
  · exact feed_command .dump { s with arg1 := dir }
  · simp [storeFrom_getElem]
  · exact feed_loadtx bs 0 s (by omega)

/-! ## The checksum (30_encoding.md R94 to R96) -/

/-- Settles O15: the fold from SEED over nothing and over one byte more; a frame by definition. -/
theorem checksumIsXorFold : Obligations.ChecksumIsXorFold :=
  ⟨chk_nil, chk_append_singleton, fun _ _ _ _ => rfl⟩

/-- Settles O16: SEED and the two markers fold to 0xEA. -/
theorem frameChecksumClosedForm : Obligations.FrameChecksumClosedForm := by
  intro dest src len payload
  rw [frame, List.getLast?_concat, chk, frameBody]
  simp only [List.foldl_cons]
  rw [foldl_xor_eq_foldr]
  rfl

theorem chk_cons (b : Byte) (bs : List Byte) : chk (b :: bs) = b ^^^ chk bs := by
  rw [chk, chk, foldl_xor_eq_foldr, foldl_xor_eq_foldr, List.foldr_cons]

/-- The XOR of all changes is the XOR of the two checksums. -/
theorem foldr_zipWith_xor {old new : List Byte} (h : old.length = new.length) (c : Byte) :
    (List.zipWith (· ^^^ ·) old new).foldr (· ^^^ ·) c = chk old ^^^ chk new ^^^ c := by
  induction old generalizing new with
  | nil =>
    obtain rfl : new = [] := List.length_eq_zero_iff.1 h.symm
    simp
  | cons b bs ih =>
    cases new with
    | nil => cases h
    | cons b' bs' =>
      rw [List.zipWith_cons_cons, List.foldr_cons, ih (Nat.succ.inj h), chk_cons, chk_cons]
      ac_rfl

/-- Settles O17: the changes of the bytes fold to the XOR of the checksums, and so with the change of the checksum byte to
zero exactly when the new one matches. -/
theorem checksumDetectsChanges : Obligations.ChecksumDetectsChanges := by
  refine ⟨fun old new oldChk newChk hlen hold => ?_, fun old k h b hne => chk_set_ne h hne⟩
  have hall : oldChk ^^^ chk new ^^^ (oldChk ^^^ newChk) = chk new ^^^ newChk := by
    rw [BitVec.xor_comm oldChk, BitVec.xor_assoc, ← BitVec.xor_assoc oldChk, BitVec.xor_self, BitVec.zero_xor]
  rw [foldr_zipWith_xor hlen, hold, hall]
  exact BitVec.xor_eq_zero_iff.symm

/-! ## The invariant right after reset (70_reset_and_hazards.md R230) -/

/-- Settles O14: reset leaves the Link idle, before INIT, with RXQ cut to its capacity and CLOCK to its width. -/
theorem invHoldsAtReset : Obligations.InvHoldsAtReset := by
  intro p txb rxb txd outd q clk
  have hqueue : ∀ depth, p.rxqDepth = some depth → (State.resetWith p txb rxb txd outd q clk).rxq.length ≤ depth := by
    intro depth hdepth
    simp [State.resetWith, hdepth]
  have hwidth : 0 < 2 ^ p.timeWidth := Nat.two_pow_pos _
  exact inv_of_idle
    { timesFit := ⟨Nat.mod_lt clk hwidth, hwidth⟩, queueFits := hqueue, exclusive := nofun, address := nofun
      beforeInit := fun _ => ⟨rfl, rfl⟩ } rfl rfl

end Sys2Proof.Machine
